-- ==== Sys2Proof/Word.lean ====
section
/-! DEFINITION. The plain names and words the whole model uses: bytes, the two pin modes, line waveforms. -/

namespace Sys2Proof

/-- Eight bits: a command byte or an event byte (30_encoding.md R100, R110). -/
abbrev Byte := BitVec 8

/-- `bits1` of 00_scope.md R12: one bit as an operand or a result. -/
abbrev Bit := BitVec 1

/-- The two values of `pin_mode` (10_state.md R21): the pin is never driven high. -/
inductive PinMode where
  | release
  | driveLow
  deriving DecidableEq, Repr

/-- A segment of a waveform (00_scope.md R14): the pin stays in a mode for a number of ticks. -/
abbrev Segment := PinMode × Nat

end Sys2Proof
end

