-- ==== Sys2Proof/Config.lean ====
section
/-! DEFINITION. The configuration record (00_scope.md R8, R10, R11; 10_state.md R34) and the free values. -/

namespace Sys2Proof

/-- A logical key (00_scope.md R17: letter, punctuation or named control key).  `caps` is the
distinguished case-lock key; `other` stands for any key the spec does not name.
DESIGN CHOICE (log entry 19): the spec fixes no representation. -/
inductive LogicalKey where
  | char (c : Char)
  | enter
  | f1
  | caps
  | other (n : Nat)
  deriving DecidableEq, Repr

/-- `POWER_KEY_DETECT` (00_scope.md R11, 43_key_event_decoder.md R213). -/
inductive PowerKeyDetect where
  | never
  | scan7F
  deriving DecidableEq, Repr

/-- Which transitions of the case-lock scan code toggle.  The spec says two things: `any` is 43_key_event_decoder.md
R212, R216, R217, R218 and the opcode table's EV_CAPS row ("on *any* transition", the release flag ignored); `releaseOnly` is
93_implementation_defined.md U20 (a press "is not a toggle, so it goes to step 5 and emits `press(KEY_CAPS)`").
DESIGN CHOICE (log entry 22): both are modelled, as a parameter. -/
inductive CapsTransition where
  | any
  | releaseOnly
  deriving DecidableEq, Repr

/-- The configuration record.  Durations are in microseconds (R8); codes and numbers as R10;
decoder parameters as R11.  The keymap lists the entries that are given, a scan code with
`none` or a logical key, scan codes rising; an entry that is not listed is open. -/
structure Params where
  ticksPerUs : Nat
  tBit0Low : Nat
  tBit0High : Nat
  tBit1Low : Nat
  tBit1High : Nat
  tResetLow : Nat
  tResetSettle : Nat
  tAttnLow : Nat
  tSyncHigh : Nat
  tGap : Nat
  tRespTimeout : Nat
  tRespSettle : Nat
  tSampleOffset : Nat
  tPollIdle : Nat
  deviceAddr : BitVec 4
  cmdWrite : BitVec 2
  cmdRead : BitVec 2
  regKeys : BitVec 2
  regLeds : BitVec 2
  regBringup : BitVec 2
  stopBit : Bit
  startBit : Bit
  keymap : List (BitVec 7 × Option LogicalKey)
  keyCaps : LogicalKey
  powerKeyDetect : PowerKeyDetect
  capsTransition : CapsTransition
  ledBitNum : Nat
  ledBitCaps : Nat
  ledBitScroll : Nat
  deriving DecidableEq, Repr

/-- `T_POLL_IDLE` has no figure in the source (00_scope.md R8: OPEN): a free value (log entry 4). -/
opaque Config.freePollIdle : Nat

/-- The keymap entries the source does not give (20_memory.md R66: OPEN): a free value (log entry 4). -/
opaque Config.freeKeymap : BitVec 7 → Option LogicalKey

/-- Whether the peripheral pulls the line low at a tick (10_state.md R22, R33): a free value (log entry 5). -/
opaque Config.freePeriphLow : Nat → Bool

/-- Whether the host can take an operation at a tick (10_state.md R33, R35): a free value (log entry 5). -/
opaque Config.freeHostReady : Nat → Bool

/-- The sentinel scan code (30_encoding.md R112). -/
abbrev scanSentinel : BitVec 7 := 0x7F#7

/-- The nominal scan code of the case-lock key (20_memory.md R67). -/
abbrev scanCaps : BitVec 7 := 0x39#7

/-- The nominal keymap: the five pinned entries of 20_memory.md R66 and the two of R67. -/
def Params.nominalKeymap : List (BitVec 7 × Option LogicalKey) :=
  [ (0x00#7, some (.char 'a')), (0x0C#7, some (.char 'q')), (0x0D#7, some (.char 'w')),
    (0x24#7, some .enter), (scanCaps, some .caps), (0x7A#7, some .f1), (scanSentinel, none) ]

/-- The nominal record: 00_scope.md R8 (durations), R10 (bus constants), R11 (decoder).  `capsTransition` is the setting of
the numbered rules (log entry 22). -/
def Params.nominal : Params where
  ticksPerUs := 1
  tBit0Low := 65
  tBit0High := 35
  tBit1Low := 35
  tBit1High := 65
  tResetLow := 3000
  tResetSettle := 1000000
  tAttnLow := 800
  tSyncHigh := 70
  tGap := 200
  tRespTimeout := 500
  tRespSettle := 70
  tSampleOffset := 50
  tPollIdle := Config.freePollIdle
  deviceAddr := 2#4
  cmdWrite := 0b10#2
  cmdRead := 0b11#2
  regKeys := 0#2
  regLeds := 2#2
  regBringup := 3#2
  stopBit := 0#1
  startBit := 1#1
  keymap := Params.nominalKeymap
  keyCaps := .caps
  powerKeyDetect := .never
  capsTransition := .any
  ledBitNum := 0
  ledBitCaps := 1
  ledBitScroll := 2

end Sys2Proof
end

