-- ==== Sys2Proof/Syntax.lean ====
section
/-! DEFINITION. The operations of the block: one constructor of `Instr` for each row of spec/opcode_table.json. -/

namespace Sys2Proof

/-- The operations of the host port (43_key_event_decoder.md R220): `activate` carries no key. -/
inductive HostCall where
  | press (k : LogicalKey)
  | release (k : LogicalKey)
  | writeAndAutoRelease (k : LogicalKey)
  | activate
  deriving DecidableEq, Repr

/-- The two power-key hooks (43_key_event_decoder.md R222). -/
inductive HookEvent where
  | powerKeyPress
  | powerKeyRelease
  deriving DecidableEq, Repr

/-- The rows of spec/opcode_table.json, in the table's order. -/
inductive Instr where
  /-- WRITE: command byte `aaaa10rr`, followed by 16 data bits (41 R164). -/
  | write (a : BitVec 4) (r : BitVec 2) (d : BitVec 16)
  /-- READ: command byte `aaaa11rr` (41 R166). -/
  | read (a : BitVec 4) (r : BitVec 2)
  /-- RESERVED_CODE_00: command byte `aaaa00rr` (30 R103). -/
  | reservedCode00 (a : BitVec 4) (r : BitVec 2)
  /-- RESERVED_CODE_01: command byte `aaaa01rr` (30 R103). -/
  | reservedCode01 (a : BitVec 4) (r : BitVec 2)
  /-- READ_BRINGUP: the read of bring-up, 0x2F (42 R191). -/
  | readBringup
  /-- READ_KEYS: the read of the polling loop, 0x2C (42 R196). -/
  | readKeys
  /-- WRITE_LEDS: the indicator write, 0x2A (44 R242). -/
  | writeLeds
  /-- EV_PRESS: event byte `0sssssss` (43 R215). -/
  | evPress (scan : BitVec 7)
  /-- EV_RELEASE: event byte `1sssssss` (43 R215). -/
  | evRelease (scan : BitVec 7)
  /-- EV_SENTINEL: event byte `r1111111` (43 R213). -/
  | evSentinel (rel : Bit)
  /-- EV_CAPS: event byte `r0111001` (43 R216). -/
  | evCaps (rel : Bit)
  /-- EV_UNMAPPED: event byte of a scan code without a key (43 R214). -/
  | evUnmapped (rel : Bit) (scan : BitVec 7)
  /-- KEY_WORD: response word of the key-event register, slot 0 then slot 1 (30 R111, 43 R210). -/
  | keyWord (e f : Byte)
  /-- LED_WORD: indicator word `1111111111111scn` (30 R120, 44 R240). -/
  | ledWord (sc ca nu : Bit)
  /-- BIT0: the 0 cell (30 R91). -/
  | bit0
  /-- BIT1: the 1 cell (30 R91). -/
  | bit1
  /-- ATTN_SYNC: attention and sync (30 R92). -/
  | attnSync
  /-- RESET: the bus reset pulse (30 R93). -/
  | reset
  /-- STOP: the stop cell (30 R94). -/
  | stop
  /-- START: the start cell (30 R94). -/
  | start
  /-- GAP: the inter-command gap (30 R95). -/
  | gap
  | press (k : LogicalKey)
  | release (k : LogicalKey)
  | writeAndAutoRelease (k : LogicalKey)
  | activate
  | powerKeyPress
  | powerKeyRelease
  | driveLow
  | releaseHigh
  | sense
  | emitBit (b : Bit)
  | emitResetPulse
  | emitAttention
  | sampleBit
  | emitCommand (a : BitVec 4) (code : BitVec 2) (r : BitVec 2)
  | sendWrite (a : BitVec 4) (r : BitVec 2) (d : BitVec 16)
  | sendReadRequest (a : BitVec 4) (r : BitVec 2)
  | main
  | bringUp
  | pollLoop
  | decodeWord (w : BitVec 16)
  | decodeSlot (e : Byte)
  | hostEmit (c : HostCall)
  | hookEmit (h : HookEvent)
  | packIndicators
  | writeIndicators
  deriving DecidableEq, Repr

end Sys2Proof
end

