-- ==== Sys2Proof/WellFormed.lean ====
section
/-! DEFINITION. Which terms of `Instr` are the canonical spelling of their words, at the nominal codes
(00_scope.md R10).  Field widths are in the types; what is left are the words that a more specific row of the
table names, and the reserved codes (30_encoding.md R103). -/

namespace Sys2Proof

/-- The two reads the program issues have rows of their own, READ_BRINGUP and READ_KEYS: their bytes 0x2F and
0x2C are not spelt READ. -/
def readCanonical (a : BitVec 4) (r : BitVec 2) : Bool :=
  ¬ (a = 2#4 ∧ (r = 3#2 ∨ r = 0#2))

/-- The sentinel and the case-lock scan code have rows of their own: they are not spelt EV_PRESS or EV_RELEASE. -/
def eventCanonical (scan : BitVec 7) : Bool :=
  scan ≠ scanSentinel ∧ scan ≠ scanCaps

/-- EV_UNMAPPED never spells the sentinel: the sentinel test stands before the keymap (43_key_event_decoder.md R218). -/
def unmappedCanonical (scan : BitVec 7) : Bool :=
  scan ≠ scanSentinel

/-- 41_command_protocol.md R162: the code operand is `CMD_WRITE` or `CMD_READ` and nothing else. -/
def commandCode (code : BitVec 2) : Bool :=
  code = 0b10#2 ∨ code = 0b11#2

/-- Well-formedness, constructor by constructor; every other field may hold any value of its type
(41_command_protocol.md R161, 30_encoding.md R104). -/
def WellFormed : Instr → Bool
  | .write _ _ _ => true
  | .read a r => readCanonical a r
  | .reservedCode00 _ _ => true
  | .reservedCode01 _ _ => true
  | .readBringup => true
  | .readKeys => true
  | .writeLeds => true
  | .evPress scan => eventCanonical scan
  | .evRelease scan => eventCanonical scan
  | .evSentinel _ => true
  | .evCaps _ => true
  | .evUnmapped _ scan => unmappedCanonical scan
  | .keyWord _ _ => true
  | .ledWord _ _ _ => true
  | .bit0 => true
  | .bit1 => true
  | .attnSync => true
  | .reset => true
  | .stop => true
  | .start => true
  | .gap => true
  | .press _ => true
  | .release _ => true
  | .writeAndAutoRelease _ => true
  | .activate => true
  | .powerKeyPress => true
  | .powerKeyRelease => true
  | .driveLow => true
  | .releaseHigh => true
  | .sense => true
  | .emitBit _ => true
  | .emitResetPulse => true
  | .emitAttention => true
  | .sampleBit => true
  | .emitCommand _ code _ => commandCode code
  | .sendWrite _ _ _ => true
  | .sendReadRequest _ _ => true
  | .main => true
  | .bringUp => true
  | .pollLoop => true
  | .decodeWord _ => true
  | .decodeSlot _ => true
  | .hostEmit _ => true
  | .hookEmit _ => true
  | .packIndicators => true
  | .writeIndicators => true

end Sys2Proof
end

