-- ==== Sys2Proof/Decode.lean ====
section
/-! DEFINITION. Bit fields, the decoder (total, rejecting by name), the encoder, the table words, and the
bit-sequence view of frames (30_encoding.md).  Encodings are at the nominal codes, as spec/opcode_table.json
gives them (log entry 24); what the machine sends follows the configuration record instead. -/

namespace Sys2Proof

/-! ## Bit fields -/

/-- 30_encoding.md R100: `address ++ code ++ register`. -/
def cmdByte (a : BitVec 4) (code : BitVec 2) (r : BitVec 2) : Byte := a ++ code ++ r

/-- `cmdByte[7:4]` (R100). -/
def cmdAddr (b : Byte) : BitVec 4 := b.extractLsb' 4 4

/-- `cmdByte[3:2]` (R100). -/
def cmdCode (b : Byte) : BitVec 2 := b.extractLsb' 2 2

/-- `cmdByte[1:0]` (R100). -/
def cmdReg (b : Byte) : BitVec 2 := b.extractLsb' 0 2

/-- The event byte with release flag `rel` and scan code `scan` (30_encoding.md R110). -/
def eventByte (rel : Bit) (scan : BitVec 7) : Byte := rel ++ scan

/-- `rel = e[7]`: 1 release, 0 press (R110, 43_key_event_decoder.md R211). -/
def eventRel (e : Byte) : Bit := e.extractLsb' 7 1

/-- `scan = e[6:0]` (R110, R211). -/
def eventScan (e : Byte) : BitVec 7 := e.extractLsb' 0 7

/-- Slot 0 of a response word, `w[15:8]`, the first event (30_encoding.md R111). -/
def slot0 (w : BitVec 16) : Byte := w.extractLsb' 8 8

/-- Slot 1 of a response word, `w[7:0]`, the second event (R111). -/
def slot1 (w : BitVec 16) : Byte := w.extractLsb' 0 8

/-- A word from its two slots, the first in the high byte (R111). -/
def keyWordOf (e f : Byte) : BitVec 16 := e ++ f

/-- The LED_WORD row `1111111111111scn` (30_encoding.md R120). -/
def ledWordOf (sc ca nu : Bit) : BitVec 16 := 0x1FFF#13 ++ sc ++ ca ++ nu

/-- `msb_first(w, n)` of 00_scope.md R13: the first element is first on the line. -/
def msbFirst : (n : Nat) → BitVec n → List Bit
  | 0, _ => []
  | n + 1, w => w.extractLsb' n 1 :: msbFirst n (w.setWidth n)

/-- The word whose `msbFirst` list is given. -/
def ofMsbFirst (n : Nat) (bs : List Bit) : BitVec n :=
  BitVec.ofNat n (bs.foldl (fun acc b => 2 * acc + b.toNat) 0)

/-! ## Encoded forms -/

/-- Where on the line a symbol stands: its position in a frame (30_encoding.md R97, R98) or the bus reset. -/
inductive Place where
  | cell
  | preamble
  | busReset
  | commandStop
  | dataStart
  | dataStop
  | frameGap
  deriving DecidableEq, Repr

/-- An encoded instruction.  Command, event, word and host codes are different encodings of the table
(30_encoding.md, first paragraph), so each form says which one its bits are.  A command is its byte and, for
WRITE, the two data bytes, high byte first (R98, R68).  An event stands beside the keymap's answer: whether
its scan code has a key (43_key_event_decoder.md R212).  A host operation stands beside the key wire. -/
inductive Code where
  | command (bs : List Byte)
  | event (bs : List Byte) (mapped : Bool)
  | response (bs : List Byte)
  | indicator (bs : List Byte)
  | host (op : BitVec 2) (key : Option LogicalKey)
  | symbol (place : Place) (wave : List Segment)
  | strobe (hookPress hookRelease : Bool)
  deriving DecidableEq, Repr

/-- Why an encoded form is no instruction. -/
inductive DecodeError where
  /-- The number of bytes is not that of the form. -/
  | wrongLength
  /-- A WRITE command byte without its data word. -/
  | writeWithoutData
  /-- An indicator word whose bits 15:3 are not all 1 (30_encoding.md R121). -/
  | indicatorBitsClear
  /-- `press`, `release` or `writeAndAutoRelease` without a key, or `activate` with one (43 R220). -/
  | hostKey
  /-- A waveform that is no symbol at its place (30_encoding.md R90). -/
  | noSymbol
  /-- No strobe, or both at once (43 R222). -/
  | noStrobe
  deriving DecidableEq, Repr

/-! ## The decoder -/

/-- One command byte by itself: the opcode map of 30_encoding.md R102 and the reserved codes of R103. -/
def decodeCommandByte (b : Byte) : Except DecodeError Instr :=
  if b = 0x2F#8 then .ok .readBringup
  else if b = 0x2C#8 then .ok .readKeys
  else if b = 0x2A#8 then .ok .writeLeds
  else if cmdCode b = 0b11#2 then .ok (.read (cmdAddr b) (cmdReg b))
  else if cmdCode b = 0b10#2 then .error .writeWithoutData
  else if cmdCode b = 0b01#2 then .ok (.reservedCode01 (cmdAddr b) (cmdReg b))
  else .ok (.reservedCode00 (cmdAddr b) (cmdReg b))

/-- A command with a data word: only WRITE has one (30_encoding.md R98). -/
def decodeWriteCommand (b hi lo : Byte) : Except DecodeError Instr :=
  if cmdCode b = 0b10#2 then .ok (.write (cmdAddr b) (cmdReg b) (hi ++ lo)) else .error .wrongLength

/-- An event byte, in the order of tests of 43_key_event_decoder.md R212. -/
def decodeEventByte (e : Byte) (mapped : Bool) : Instr :=
  if eventScan e = scanSentinel then .evSentinel (eventRel e)
  else if mapped = false then .evUnmapped (eventRel e) (eventScan e)
  else if eventScan e = scanCaps then .evCaps (eventRel e)
  else if eventRel e = 0#1 then .evPress (eventScan e)
  else .evRelease (eventScan e)

/-- The LED_WORD row (30_encoding.md R120). -/
def decodeIndicator (w : BitVec 16) : Except DecodeError Instr :=
  if w.extractLsb' 3 13 = 0x1FFF#13 then
    .ok (.ledWord (w.extractLsb' 2 1) (w.extractLsb' 1 1) (w.extractLsb' 0 1))
  else .error .indicatorBitsClear

/-- The `host_op` codes of 10_state.md R35, with the key wire. -/
def decodeHost (op : BitVec 2) (key : Option LogicalKey) : Except DecodeError Instr :=
  match key with
  | some k =>
    if op = 0#2 then .ok (.press k)
    else if op = 1#2 then .ok (.release k)
    else if op = 2#2 then .ok (.writeAndAutoRelease k)
    else .error .hostKey
  | none => if op = 3#2 then .ok .activate else .error .hostKey

/-- The waveforms of 30_encoding.md R90 at their places. -/
def waveBit0 : List Segment := [(.driveLow, 65), (.release, 35)]
def waveBit1 : List Segment := [(.driveLow, 35), (.release, 65)]
def waveAttnSync : List Segment := [(.driveLow, 800), (.release, 70)]
def waveReset : List Segment := [(.driveLow, 3000), (.release, 1000000)]
def waveGap : List Segment := [(.release, 200)]

def decodeSymbol (place : Place) (wave : List Segment) : Except DecodeError Instr :=
  match place with
  | .cell =>
    if wave = waveBit0 then .ok .bit0 else if wave = waveBit1 then .ok .bit1 else .error .noSymbol
  | .preamble => if wave = waveAttnSync then .ok .attnSync else .error .noSymbol
  | .busReset => if wave = waveReset then .ok .reset else .error .noSymbol
  | .commandStop => if wave = waveBit0 then .ok .stop else .error .noSymbol
  | .dataStart => if wave = waveBit1 then .ok .start else .error .noSymbol
  | .dataStop => if wave = waveBit0 then .ok .stop else .error .noSymbol
  | .frameGap => if wave = waveGap then .ok .gap else .error .noSymbol

/-- The decoder: total, one instruction or a named error. -/
def decode : Code → Except DecodeError Instr
  | .command [b] => decodeCommandByte b
  | .command [b, hi, lo] => decodeWriteCommand b hi lo
  | .command _ => .error .wrongLength
  | .event [e] mapped => .ok (decodeEventByte e mapped)
  | .event _ _ => .error .wrongLength
  | .response [e, f] => .ok (.keyWord e f)
  | .response _ => .error .wrongLength
  | .indicator [hi, lo] => decodeIndicator (hi ++ lo)
  | .indicator _ => .error .wrongLength
  | .host op key => decodeHost op key
  | .symbol place wave => decodeSymbol place wave
  | .strobe true false => .ok .powerKeyPress
  | .strobe false true => .ok .powerKeyRelease
  | .strobe _ _ => .error .noStrobe

/-! ## The encoder -/

/-- The encoded form of an instruction, from the same tables; `none` for the rows that the table gives no bit
pattern ("no bit pattern: the program is fixed").  STOP, which has two places in a write frame, is encoded at the first
(DESIGN CHOICE, log entry 16). -/
def encode : Instr → Option Code
  | .write a r d => some (.command [cmdByte a 0b10#2 r, slot0 d, slot1 d])
  | .read a r => some (.command [cmdByte a 0b11#2 r])
  | .reservedCode00 a r => some (.command [cmdByte a 0b00#2 r])
  | .reservedCode01 a r => some (.command [cmdByte a 0b01#2 r])
  | .readBringup => some (.command [cmdByte 2#4 0b11#2 3#2])
  | .readKeys => some (.command [cmdByte 2#4 0b11#2 0#2])
  | .writeLeds => some (.command [cmdByte 2#4 0b10#2 2#2])
  | .evPress scan => some (.event [eventByte 0#1 scan] true)
  | .evRelease scan => some (.event [eventByte 1#1 scan] true)
  | .evSentinel rel => some (.event [eventByte rel scanSentinel] false)
  | .evCaps rel => some (.event [eventByte rel scanCaps] true)
  | .evUnmapped rel scan => some (.event [eventByte rel scan] false)
  | .keyWord e f => some (.response [e, f])
  | .ledWord sc ca nu => some (.indicator [slot0 (ledWordOf sc ca nu), slot1 (ledWordOf sc ca nu)])
  | .bit0 => some (.symbol .cell waveBit0)
  | .bit1 => some (.symbol .cell waveBit1)
  | .attnSync => some (.symbol .preamble waveAttnSync)
  | .reset => some (.symbol .busReset waveReset)
  | .stop => some (.symbol .commandStop waveBit0)
  | .start => some (.symbol .dataStart waveBit1)
  | .gap => some (.symbol .frameGap waveGap)
  | .press k => some (.host 0#2 (some k))
  | .release k => some (.host 1#2 (some k))
  | .writeAndAutoRelease k => some (.host 2#2 (some k))
  | .activate => some (.host 3#2 none)
  | .powerKeyPress => some (.strobe true false)
  | .powerKeyRelease => some (.strobe false true)
  | .driveLow => none
  | .releaseHigh => none
  | .sense => none
  | .emitBit _ => none
  | .emitResetPulse => none
  | .emitAttention => none
  | .sampleBit => none
  | .emitCommand _ _ _ => none
  | .sendWrite _ _ _ => none
  | .sendReadRequest _ _ => none
  | .main => none
  | .bringUp => none
  | .pollLoop => none
  | .decodeWord _ => none
  | .decodeSlot _ => none
  | .hostEmit _ => none
  | .hookEmit _ => none
  | .packIndicators => none
  | .writeIndicators => none

/-! ## Words of spec/opcode_table.json -/

/-- The decoded instruction, if there is one. -/
def decode? (c : Code) : Option Instr :=
  match decode c with
  | .ok i => some i
  | .error _ => none

/-- A byte of the table without the name of its format.  Where rows of several formats fit, the row that fixes
most bits is taken (DESIGN CHOICE, log entry 12): a host operation (2 bits, the byte's other bits 0), then the
three concrete commands (8 bits), then the events of scan codes 0x7F and 0x39 (7 bits), then the command codes
(2 bits).  The key wire of a host operation is key number 0, the data word of WRITE is 0. -/
def decodeTableByte (b : Byte) : Option Instr :=
  if b = 0#8 ∨ b = 1#8 ∨ b = 2#8 then decode? (.host (b.extractLsb' 0 2) (some (.other 0)))
  else if b = 3#8 then decode? (.host 3#2 none)
  else if b = 0x2A#8 then decode? (.command [b])
  else if eventScan b = scanSentinel ∨ eventScan b = scanCaps then decode? (.event [b] true)
  else if cmdCode b = 0b10#2 then decode? (.command [b, 0#8, 0#8])
  else decode? (.command [b])

/-- A 16-bit word of the table: the indicator word where its 13 fixed bits are 1, otherwise a response word. -/
def decodeTableWord16 (w : BitVec 16) : Option Instr :=
  match decode? (.indicator [slot0 w, slot1 w]) with
  | some i => some i
  | none => decode? (.response [slot0 w, slot1 w])

/-- The instruction read from a word of the table (bit 0 the least significant). -/
def decodeTableWord (nbits w : Nat) : Option Instr :=
  if nbits = 2 then decodeTableByte (BitVec.ofNat 8 (w % 4))
  else if nbits = 8 then decodeTableByte (BitVec.ofNat 8 w)
  else if nbits = 16 then decodeTableWord16 (BitVec.ofNat 16 w)
  else none

/-! ## The bit-sequence view (30_encoding.md R101) -/

def encodeCommandBits (p : Params) (a : BitVec 4) (code : BitVec 2) (r : BitVec 2) : List Bit :=
  msbFirst 8 (cmdByte a code r) ++ [p.stopBit]

def encodeReadBits (p : Params) (a : BitVec 4) (r : BitVec 2) : List Bit :=
  encodeCommandBits p a p.cmdRead r

def encodeWriteBits (p : Params) (a : BitVec 4) (r : BitVec 2) (d : BitVec 16) : List Bit :=
  encodeCommandBits p a p.cmdWrite r ++ [p.startBit] ++ msbFirst 16 d ++ [p.stopBit]

/-- Defined exactly where R101 defines it: 27 cells, the write code, the stop and start bits in their places. -/
def decodeWriteBits (p : Params) (bs : List Bit) : Option (BitVec 4 × BitVec 2 × BitVec 16) :=
  if bs.length = 27 ∧ (bs.drop 4).take 2 = msbFirst 2 p.cmdWrite ∧ (bs.drop 8).take 1 = [p.stopBit]
      ∧ (bs.drop 9).take 1 = [p.startBit] ∧ (bs.drop 26).take 1 = [p.stopBit] then
    some (ofMsbFirst 4 (bs.take 4), ofMsbFirst 2 ((bs.drop 6).take 2), ofMsbFirst 16 ((bs.drop 10).take 16))
  else none

end Sys2Proof
end

