-- ==== Sys2Proof/Machine/State.lean ====
section
/-! DEFINITION. The state record (10_state.md R20, R30, R35, R36), its reset value, and the reasons a step can stop. -/

namespace Sys2Proof.Machine

/-- `outcome` (10_state.md R28): result of the last `sendReadRequest`. -/
inductive ReadOutcome where
  | none
  | response
  | timeout
  deriving DecidableEq, Repr

/-- The activity column of 10_state.md R30. -/
inductive Activity where
  | buReset
  | buRead
  | buActivate
  | plRead
  | plSlot0
  | plSlot1
  | plIdle
  deriving DecidableEq, Repr

/-- The point columns of 10_state.md R30, the index of a loop in the point.  `bitLow` and `bitHigh` are the
model's: the phases of a cell emitted outside a frame (DESIGN CHOICE, log entry 16). -/
inductive Point where
  | resetLow
  | resetSettle
  | attnLow
  | syncHigh
  | cmdLow (i : Nat)
  | cmdHigh (i : Nat)
  | cstopLow
  | cstopHigh
  | gap
  | dstartLow
  | dstartHigh
  | dataLow (i : Nat)
  | dataHigh (i : Nat)
  | dstopLow
  | dstopHigh
  | waitStart
  | rxSettle
  | rxWaitLow (j : Nat)
  | rxWaitHigh (j : Nat)
  | rxOffset (j : Nat)
  | hostWait
  | hostOp
  | hookOp
  | idle
  | bitLow
  | bitHigh
  deriving DecidableEq, Repr

/-- The field of a frame that is being sent (41_command_protocol.md R162, R164). -/
inductive TxField where
  | cmd
  | data
  deriving DecidableEq, Repr

/-- What remains to be done after the delay in progress: the statements of the pseudocode of files 40 to 44
between two operations.  Each constructor names the statement that runs when it is reached. -/
inductive SeqTask where
  /-- One segment of `play` (00_scope.md R16): set the pin, then `delay(n)`, `n` in ticks. -/
  | play (m : PinMode) (p : Point) (n : Nat)
  /-- Send the next bit of a field, or the stop bit after the last (R162, R164). -/
  | sendBits (f : TxField)
  /-- A cell of a field has ended: count it and go on. -/
  | nextBit (f : TxField)
  /-- `releaseHigh(); delay(T_GAP)` inside a write (R164). -/
  | writeGap
  /-- The start bit and the payload of a write (R164). -/
  | writeData
  /-- `wait_cnt <- T_RESP_TIMEOUT` and the first poll (R166). -/
  | waitBegin
  /-- A poll's tick has passed: `wait_cnt <- wait_cnt - 1` and the next poll (R166). -/
  | waitNext
  /-- The first loop of `sampleBit` (40_bit_signaling.md R137). -/
  | rxLow
  /-- The second loop of `sampleBit` (R137). -/
  | rxHigh
  /-- The sample of `sampleBit` (R137). -/
  | rxTake
  /-- The receive loop: the next bit, or `outcome <- response` after the 16th (R166). -/
  | rxBit
  /-- `rx_word <- rx_word[14:0] ++ b` (R166). -/
  | rxShift
  /-- `bringUp` after the reset pulse: the read (42_bring_up_and_poll.md R191). -/
  | buRead
  /-- `bringUp` after the read: retry or activate (R191). -/
  | buCheck
  /-- `pollLoop` after the read: decode or not (R196). -/
  | plCheck
  /-- `pollLoop`: the idle delay (R196, R198). -/
  | plIdle
  /-- `decodeWord` after slot 0: slot 1 (43_key_event_decoder.md R210). -/
  | decodeSecond (e : Byte)
  /-- The wait of `hostEmit` (R220). -/
  | hostTry (c : HostCall)
  /-- `host_valid <- 0` (R220). -/
  | hostDone
  /-- The end of a hook's strobe (R222). -/
  | hookDone (h : HookEvent)
  deriving DecidableEq, Repr

/-- An element of the program that remains: an operation, or a statement between operations. -/
inductive Task where
  | op (i : Instr)
  | seq (t : SeqTask)
  deriving DecidableEq, Repr

/-- `ctl` (10_state.md R30): where the one control loop stands, and the rest of the program as a continuation
("a model is free to represent control as a call stack or a continuation instead", log entry 2). -/
structure Ctl where
  activity : Activity
  point : Point
  rest : List Task
  deriving DecidableEq, Repr

/-- The inputs of the ticks to come (log entries 5 and 6), as lists of tick intervals, both ends included, the
scenario notation of 95_test_vectors.md section 3: `lows` the ticks at which the peripheral pulls the line low,
`busy` those at which the host is not ready, both given for the ticks below `known` and free from there on;
`rst` the ticks at which the block is reset. -/
structure Env where
  known : Nat
  lows : List (Nat × Nat)
  busy : List (Nat × Nat)
  rst : List (Nat × Nat)
  deriving DecidableEq, Repr

/-- The state record of 10_state.md R20 with the ports of R35 that hold a value during a tick. -/
structure State where
  /-- `pin_mode` (R21). -/
  pinMode : PinMode
  /-- `ind_num`, `ind_caps`, `ind_scroll` (R23). -/
  indNum : Bool
  indCaps : Bool
  indScroll : Bool
  /-- `host_active` (R24). -/
  hostActive : Bool
  /-- `ctl` (R30). -/
  ctl : Ctl
  /-- `timer`, `wait_cnt`, `bit_cnt` (R26). -/
  timer : Nat
  waitCnt : Nat
  bitCnt : Nat
  /-- `tx_cmd`, `tx_data` (R25). -/
  txCmd : Byte
  txData : BitVec 16
  /-- `rx_word` (R27): no value until the first detected start of a response. -/
  rxWord : Option (BitVec 16)
  /-- `outcome` (R28). -/
  outcome : ReadOutcome
  /-- `slot_idx` (R26). -/
  slotIdx : Fin 2
  /-- `host_valid`, `host_op`, `host_key` (R35): `none` is `host_valid = 0`. -/
  hostPort : Option HostCall
  /-- `hook_press`, `hook_release` (R35). -/
  hookPress : Bool
  hookRelease : Bool
  /-- `km_scan` (R35): the scan code of the last lookup (DESIGN CHOICE, log entry 30). -/
  kmScan : BitVec 7
  /-- The model's: the last value `sense` or `sampleBit` returned. -/
  retBit : Bit
  /-- The model's: the last value `packIndicators` returned. -/
  retWord : BitVec 16
  /-- The model's: the number of the current tick. -/
  now : Nat
  /-- The model's: the inputs. -/
  env : Env
  /-- The configuration record (R34): no step changes it. -/
  cfg : Params
  deriving DecidableEq, Repr

/-- The reasons a step stops with a fault: there is none ("Nothing in the block is a `fault`",
93_implementation_defined.md Part 1; "A model must not add a fault for any of these", 60_exceptions.md R254). -/
inductive Fault
  deriving DecidableEq, Repr

/-- The reasons a step is refused. -/
inductive Refusal where
  /-- Raised by `exec` for an instruction without a meaning; safe. -/
  | notModelled (mnemonic : String)
  /-- Raised by the two reserved command bytes and by `emitCommand` with a code that is neither `CMD_WRITE` nor
  `CMD_READ`: "a model gives them no operation and must refuse a request to emit one" (30_encoding.md R103);
  safe. -/
  | reservedCode (code : BitVec 2)
  /-- Raised by `step` when no operation remains: the program of the block has no end (42 R190, 10_state.md R31),
  so no run of it arrives here (log entry 17); safe. -/
  | programEnded
  /-- Raised by the polling loop when `outcome = response` and `rx_word` holds no value: "no rule reads it before a
  response has completed" (10_state.md R27), so no run arrives here (log entry 17); safe. -/
  | rxWordNoValue
  deriving DecidableEq, Repr

/-- The state after reset (10_state.md R36).  `kmScan`, `retBit`, `retWord` and `now` 0, and an environment that
gives nothing, are DESIGN CHOICE (log entries 5, 14); the record is the nominal one (log entry 4). -/
def State.reset : State where
  pinMode := .release
  indNum := false
  indCaps := false
  indScroll := false
  hostActive := false
  ctl := { activity := .buReset, point := .resetLow, rest := [.op .main] }
  timer := 0
  waitCnt := 0
  bitCnt := 0
  txCmd := 0
  txData := 0
  rxWord := none
  outcome := .none
  slotIdx := 0
  hostPort := none
  hookPress := false
  hookRelease := false
  kmScan := 0
  retBit := 0
  retWord := 0
  now := 0
  env := { known := 0, lows := [], busy := [], rst := [] }
  cfg := Params.nominal

end Sys2Proof.Machine
end

