-- ==== Sys2Proof/Machine/Operands.lean ====
section
/-! DEFINITION. Operand and input forms: durations in ticks, cells, the keymap, the line, the ports, the
indicator word. -/

namespace Sys2Proof

/-- A duration in ticks: `T * TICKS_PER_US` (00_scope.md R9, 44_indicator_driver.md R244 (g)). -/
def Params.ticks (p : Params) (us : Nat) : Nat := us * p.ticksPerUs

/-- The low phase of the cell of a bit, in ticks (40_bit_signaling.md R134). -/
def Params.cellLow (p : Params) (b : Bit) : Nat := p.ticks (if b = 1#1 then p.tBit1Low else p.tBit0Low)

/-- The high phase of the cell of a bit, in ticks (R134). -/
def Params.cellHigh (p : Params) (b : Bit) : Nat := p.ticks (if b = 1#1 then p.tBit1High else p.tBit0High)

/-- The length of the cell of a bit (30_encoding.md R91). -/
def Params.cellTicks (p : Params) (b : Bit) : Nat := p.cellLow b + p.cellHigh b

/-- An open keymap entry: any answer but `KEY_CAPS`, which exactly one listed scan code has (20_memory.md R67). -/
def Params.openKey (p : Params) (scan : BitVec 7) : Option LogicalKey :=
  match Config.freeKeymap scan with
  | some k => if k = p.keyCaps then none else some k
  | none => none

/-- `KEYMAP(scan)` (20_memory.md R66): the listed entry, otherwise the open one. -/
def Params.keymapAt (p : Params) (scan : BitVec 7) : Option LogicalKey :=
  match p.keymap.lookup scan with
  | some entry => entry
  | none => p.openKey scan

/-- Does a case-lock event with this release flag toggle (43_key_event_decoder.md R216, 93_implementation_defined.md U20;
log entry 22)? -/
def Params.togglesOn (p : Params) (rel : Bit) : Bool := p.capsTransition = .any ∨ rel = 1#1

/-- Is the code one of the two command codes (30_encoding.md R103)? -/
def Params.isCommandCode (p : Params) (code : BitVec 2) : Bool := code = p.cmdWrite ∨ code = p.cmdRead

/-- `zext_16(b) << pos` (30_encoding.md R120). -/
def indicatorMask (b : Bool) (pos : Nat) : BitVec 16 := (if b then 1#16 else 0#16) <<< pos

/-- `indicatorWord(num, caps, scroll)` (30_encoding.md R120): active low, all other bits set. -/
def Params.indicatorWord (p : Params) (num caps scroll : Bool) : BitVec 16 :=
  0xFFFF#16 &&& ~~~ indicatorMask num p.ledBitNum &&& ~~~ indicatorMask caps p.ledBitCaps
    &&& ~~~ indicatorMask scroll p.ledBitScroll

/-- Is a tick in one of the intervals, both ends included? -/
def inSpans : List (Nat × Nat) → Nat → Bool
  | [], _ => false
  | (lo, hi) :: rest, t => (decide (lo ≤ t) && decide (t ≤ hi)) || inSpans rest t

/-- `periph_low(t)` (10_state.md R22): free where the environment gives nothing. -/
def Machine.Env.periphLow (e : Machine.Env) (t : Nat) : Bool :=
  if t < e.known then inSpans e.lows t else Config.freePeriphLow t

/-- `host_ready(t)` (10_state.md R35): free where the environment gives nothing. -/
def Machine.Env.hostReady (e : Machine.Env) (t : Nat) : Bool :=
  if t < e.known then !inSpans e.busy t else Config.freeHostReady t

/-- `rst(t)` (70_reset_and_hazards.md R280). -/
def Machine.Env.rstAt (e : Machine.Env) (t : Nat) : Bool := inSpans e.rst t

namespace Machine

/-- `line(t)` with the pin in a mode (10_state.md R22): wired-AND, low while anyone pulls low. -/
def Env.line (e : Env) (m : PinMode) (t : Nat) : Bit :=
  if m = .driveLow ∨ e.periphLow t = true then 0#1 else 1#1

/-- `line_in` at the current tick (10_state.md R22, R35). -/
def State.line (s : State) : Bit := s.env.line s.pinMode s.now

/-- `host_ready` at the current tick. -/
def State.hostReady (s : State) : Bool := s.env.hostReady s.now

/-- `rst` at the current tick. -/
def State.rst (s : State) : Bool := s.env.rstAt s.now

/-- The output `line_drive_low` (10_state.md R35). -/
def State.lineDriveLow (s : State) : Bool := s.pinMode = .driveLow

/-- The output `host_valid` (R35). -/
def State.hostValid (s : State) : Bool := s.hostPort.isSome

/-- The code of an operation on `host_op` (R35). -/
def hostOpCode : HostCall → BitVec 2
  | .press _ => 0#2
  | .release _ => 1#2
  | .writeAndAutoRelease _ => 2#2
  | .activate => 3#2

/-- The operand on `host_key` (R35): not meaningful for `activate`. -/
def hostOpKey : HostCall → Option LogicalKey
  | .press k => some k
  | .release k => some k
  | .writeAndAutoRelease k => some k
  | .activate => none

/-- The output `host_op`, meaningful when `host_valid = 1` (R35). -/
def State.hostOp (s : State) : Option (BitVec 2) := s.hostPort.map hostOpCode

/-- The output `host_key` (R35). -/
def State.hostKey (s : State) : Option LogicalKey := s.hostPort.bind hostOpKey

/-- The input `km_key` (R35): the keymap's answer for `km_scan`. -/
def State.kmKey (s : State) : Option LogicalKey := s.cfg.keymapAt s.kmScan

/-- `packIndicators()` as a function of the state (44_indicator_driver.md R240). -/
def State.indicators (s : State) : BitVec 16 := s.cfg.indicatorWord s.indNum s.indCaps s.indScroll

/-- Bit `i` of the field being sent (10_state.md R25). -/
def State.txBit (s : State) : TxField → Nat → Bit
  | .cmd, i => s.txCmd.extractLsb' i 1
  | .data, i => s.txData.extractLsb' i 1

/-- The shift-in of `rx_word` (10_state.md R27): the top bit is discarded, the new bit enters at the bottom. -/
def shiftIn (w : BitVec 16) (b : Bit) : BitVec 16 := w.extractLsb' 0 15 ++ b

end Machine

end Sys2Proof
end

