-- ==== Sys2Proof/Machine/Flags.lean ====
section
/-! DEFINITION. The one stored flag, `outcome` (10_state.md R28), and the strobes of the ports. -/

namespace Sys2Proof.Machine

/-- `outcome <- response`, at the 16th sample (41_command_protocol.md R166). -/
def State.setResponse (s : State) : State := { s with outcome := .response }

/-- `outcome <- timeout` (R166). -/
def State.setTimeout (s : State) : State := { s with outcome := .timeout }

/-- `host_valid <- 1; host_op <- op; host_key <- k` (43_key_event_decoder.md R220).  `host_active` is set "at the
tick the `activate` operation is handed over" (10_state.md R24, 42_bring_up_and_poll.md R192; log entry 8). -/
def State.raiseHost (c : HostCall) (s : State) : State :=
  { s with hostPort := some c, hostActive := s.hostActive || decide (c = .activate) }

/-- `host_valid <- 0` (R220). -/
def State.dropHost (s : State) : State := { s with hostPort := none }

/-- `hook_press <- 1` or `hook_release <- 1` (R222). -/
def State.raiseHook (h : HookEvent) (s : State) : State :=
  match h with
  | .powerKeyPress => { s with hookPress := true }
  | .powerKeyRelease => { s with hookRelease := true }

/-- The strobe back to 0 (R222). -/
def State.dropHook (h : HookEvent) (s : State) : State :=
  match h with
  | .powerKeyPress => { s with hookPress := false }
  | .powerKeyRelease => { s with hookRelease := false }

end Sys2Proof.Machine
end

