-- ==== Sys2Proof/Machine/Ops.lean ====
section
/-! DEFINITION. The shared operations over the state.  An operation that takes time performs its zero-time
statements up to its first `delay`, loads `timer`, and leaves what follows that delay in front of the
continuation (00_scope.md R15, log entries 1 and 2). -/

namespace Sys2Proof.Machine

/-! ## Primitives -/

/-- Write `pin_mode` (40_bit_signaling.md R131, R132). -/
def State.setPin (m : PinMode) (s : State) : State := { s with pinMode := m }

/-- `delay(n)` begins at control point `p` (00_scope.md R15, 10_state.md R30). -/
def State.hold (p : Point) (n : Nat) (s : State) : State :=
  { s with timer := n, ctl := { s.ctl with point := p } }

/-- What must run after the delay in progress. -/
def State.push (ts : List Task) (s : State) : State :=
  { s with ctl := { s.ctl with rest := ts ++ s.ctl.rest } }

/-- `ctl <- activity` (10_state.md R30). -/
def State.enter (a : Activity) (s : State) : State :=
  { s with ctl := { s.ctl with activity := a } }

/-- The continuation with its head taken off. -/
def State.withRest (ts : List Task) (s : State) : State :=
  { s with ctl := { s.ctl with rest := ts } }

/-- One tick of the delay in progress (10_state.md R31). -/
def State.tick (s : State) : State := { s with timer := s.timer - 1, now := s.now + 1 }

/-- A tick with `rst = 1` (70_reset_and_hazards.md R280): the values of 10_state.md R36, whatever the block was
doing.  Time, inputs and the configuration record are not the block's state. -/
def State.blockReset (s : State) : State :=
  { State.reset with now := s.now + 1, env := s.env, cfg := s.cfg }

/-! ## Symbols -/

/-- The first segment of a waveform (00_scope.md R16, `play`). -/
def State.play (m : PinMode) (p : Point) (n : Nat) (s : State) : State := (s.setPin m).hold p n

/-- A symbol (30_encoding.md R90): a low phase, then a released phase. -/
def State.symbol (pLow : Point) (nLow : Nat) (pHigh : Point) (nHigh : Nat) (s : State) : State :=
  (s.push [.seq (.play .release pHigh nHigh)]).play .driveLow pLow nLow

/-- `emitBit(b)` (40_bit_signaling.md R134) at given control points. -/
def State.cell (pLow pHigh : Point) (b : Bit) (s : State) : State :=
  s.symbol pLow (s.cfg.cellLow b) pHigh (s.cfg.cellHigh b)

/-- `emitAttention()` (R136). -/
def State.attention (s : State) : State :=
  s.symbol .attnLow (s.cfg.ticks s.cfg.tAttnLow) .syncHigh (s.cfg.ticks s.cfg.tSyncHigh)

/-- `emitResetPulse()` (R135). -/
def State.resetPulse (s : State) : State :=
  s.symbol .resetLow (s.cfg.ticks s.cfg.tResetLow) .resetSettle (s.cfg.ticks s.cfg.tResetSettle)

/-- The inter-command gap (30_encoding.md R95): `releaseHigh(); delay(T_GAP)`. -/
def State.gapHigh (s : State) : State := s.play .release .gap (s.cfg.ticks s.cfg.tGap)

/-- `sense()` (40_bit_signaling.md R133): the result register takes the level of the line. -/
def State.senseLine (s : State) : State := { s with retBit := s.line }

/-! ## Frames -/

/-- The control points of bit `i` of a field (10_state.md R30). -/
def bitLowPoint : TxField → Nat → Point
  | .cmd, i => .cmdLow i
  | .data, i => .dataLow i

def bitHighPoint : TxField → Nat → Point
  | .cmd, i => .cmdHigh i
  | .data, i => .dataHigh i

def stopLowPoint : TxField → Point
  | .cmd => .cstopLow
  | .data => .dstopLow

def stopHighPoint : TxField → Point
  | .cmd => .cstopHigh
  | .data => .dstopHigh

/-- The loops of 41_command_protocol.md R162 and R164: `emitBit` of the next bit, most significant first, and
`emitBit(STOP_BIT)` when no bit is left. -/
def State.sendBits (f : TxField) (s : State) : State :=
  match s.bitCnt with
  | 0 => s.cell (stopLowPoint f) (stopHighPoint f) s.cfg.stopBit
  | i + 1 => (s.push [.seq (.nextBit f)]).cell (bitLowPoint f i) (bitHighPoint f i) (s.txBit f i)

/-- `bit_cnt` counts the bit that was sent or received (10_state.md R26). -/
def State.countBit (s : State) : State := { s with bitCnt := s.bitCnt - 1 }

/-- `bit_cnt <- n` (R26).  DESIGN CHOICE (log entry 31): no pseudocode loads it, and the model does so where
`State.command`, `State.writeData` and `State.startFound` say. -/
def State.loadBits (n : Nat) (s : State) : State := { s with bitCnt := n }

/-- `tx_cmd <- address ++ code ++ register` (R162). -/
def State.loadCmd (a : BitVec 4) (code r : BitVec 2) (s : State) : State := { s with txCmd := cmdByte a code r }

/-- `tx_data <- data16` (R164). -/
def State.loadData (d : BitVec 16) (s : State) : State := { s with txData := d }

/-- `emitCommand(a, code, r)` (R162); `bit_cnt` is loaded before the attention (DESIGN CHOICE, log entry 31). -/
def State.command (a : BitVec 4) (code r : BitVec 2) (s : State) : State :=
  (((s.loadCmd a code r).loadBits 8).push [.seq (.sendBits .cmd)]).attention

/-- `sendWrite(a, r, d)` (R164). -/
def State.sendWrite (a : BitVec 4) (r : BitVec 2) (d : BitVec 16) (s : State) : State :=
  ((s.loadData d).push [.seq .writeGap]).command a s.cfg.cmdWrite r

/-- The gap of a write, then its data part (R164). -/
def State.writeGap (s : State) : State := (s.push [.seq .writeData]).gapHigh

/-- The start bit of a write, then its payload (R164); `bit_cnt` is loaded before the start cell (DESIGN CHOICE, log
entry 31). -/
def State.writeData (s : State) : State :=
  ((s.loadBits 16).push [.seq (.sendBits .data)]).cell .dstartLow .dstartHigh s.cfg.startBit

/-- `sendReadRequest(a, r)` (R166): the frame; the bounded wait and the reception follow. -/
def State.sendRead (a : BitVec 4) (r : BitVec 2) (s : State) : State :=
  (s.push [.seq .waitBegin]).command a s.cfg.cmdRead r

/-! ## Exceptional outcomes -/

/-- `raise Timeout` (60_exceptions.md R251, R257): `outcome <- timeout`, nothing else; nothing is saved, nothing is
masked, and control goes on with the caller, whose next statement heads the continuation. -/
def State.raiseTimeout (s : State) : State := s.setTimeout

/-- `IgnoredKey` (60_exceptions.md R252): the slot ends with no host operation and no state change. -/
def State.ignoreKey (s : State) : State := s

/-! ## Receiver -/

/-- `rx_word <- 0` and the settle interval, at the detected start of a response (R166); `bit_cnt` is loaded before the
settle (DESIGN CHOICE, log entry 31). -/
def State.startFound (s : State) : State :=
  ((({ s with rxWord := some 0 }).loadBits 16).push [.seq .rxBit]).hold .rxSettle (s.cfg.ticks s.cfg.tRespSettle)

/-- One poll of the bounded wait (41_command_protocol.md R166, R167). -/
def State.waitPoll (s : State) : State :=
  if s.waitCnt = 0 then s.raiseTimeout
  else if s.line = 0#1 then s.startFound
  else (s.push [.seq .waitNext]).hold .waitStart 1

/-- `wait_cnt <- T_RESP_TIMEOUT` in ticks (10_state.md R26), and the first poll. -/
def State.waitBegin (s : State) : State :=
  ({ s with waitCnt := s.cfg.ticks s.cfg.tRespTimeout }).waitPoll

/-- `wait_cnt <- wait_cnt - 1` and the next poll. -/
def State.waitNext (s : State) : State := ({ s with waitCnt := s.waitCnt - 1 }).waitPoll

/-- The second loop of `sampleBit` and the offset (40_bit_signaling.md R137): wait until the line is high. -/
def State.rxHigh (s : State) : State :=
  if s.line = 0#1 then (s.push [.seq .rxHigh]).hold (.rxWaitHigh (s.bitCnt - 1)) 1
  else (s.push [.seq .rxTake]).hold (.rxOffset (s.bitCnt - 1)) (s.cfg.ticks s.cfg.tSampleOffset)

/-- `sampleBit()` from its first loop (R137): wait until the line is low. -/
def State.rxLow (s : State) : State :=
  if s.line = 1#1 then (s.push [.seq .rxLow]).hold (.rxWaitLow (s.bitCnt - 1)) 1 else s.rxHigh

/-- The receive loop (41_command_protocol.md R166): the next bit, or the end of the reception. -/
def State.rxBit (s : State) : State :=
  if s.bitCnt = 0 then s.setResponse else (s.push [.seq .rxShift]).rxLow

/-- `rx_word <- rx_word[14:0] ++ b`, then the loop again (R166). -/
def State.rxShift (s : State) : State :=
  (({ s with rxWord := s.rxWord.map (fun w => shiftIn w s.retBit) }).countBit).rxBit

/-! ## Collaborators -/

/-- `hostEmit(c)` (43_key_event_decoder.md R220): wait for the host, then one tick with `host_valid = 1`. -/
def State.hostEmit (c : HostCall) (s : State) : State :=
  if s.hostReady = true then ((s.raiseHost c).push [.seq .hostDone]).hold .hostOp 1
  else (s.push [.seq (.hostTry c)]).hold .hostWait 1

/-- `hookEmit(h)` (R222): one tick of strobe, no handshake. -/
def State.hookEmit (h : HookEvent) (s : State) : State :=
  ((s.raiseHook h).push [.seq (.hookDone h)]).hold .hookOp 1

/-! ## Indicators -/

/-- `packIndicators()` (44_indicator_driver.md R240): the result register takes the word. -/
def State.pack (s : State) : State := { s with retWord := s.indicators }

/-- `writeIndicators()` (R242): the word is computed once, at the call. -/
def State.writeIndicators (s : State) : State := s.sendWrite s.cfg.deviceAddr s.cfg.regLeds s.indicators

/-! ## Key events -/

/-- `ind_caps <- NOT ind_caps` (43_key_event_decoder.md R216). -/
def State.flipCaps (s : State) : State := { s with indCaps := !s.indCaps }

/-- `km_scan <- scan` (R212).  DESIGN CHOICE (log entry 30): the port holds it until the next lookup. -/
def State.presentScan (scan : BitVec 7) (s : State) : State := { s with kmScan := scan }

/-- The toggle branch (R216): flip, host operation, indicator write, in that order. -/
def State.toggleKey (s : State) : State :=
  (s.flipCaps.push [.op .writeIndicators]).hostEmit (.writeAndAutoRelease s.cfg.keyCaps)

/-- The host operation of a plain key (R215). -/
def plainCall (rel : Bit) (k : LogicalKey) : HostCall := if rel = 0#1 then .press k else .release k

/-- The hook of a sentinel under `scan7F` (R213). -/
def hookOf (rel : Bit) : HookEvent := if rel = 0#1 then .powerKeyPress else .powerKeyRelease

/-- Steps 4 and 5 of `decodeSlot` for a mapped key (R212): the toggle, or a plain press or release.  A press of the
case-lock code is a toggle or falls to step 5 by `capsTransition` (log entry 22). -/
def State.mappedKey (rel : Bit) (k : LogicalKey) (s : State) : State :=
  if k = s.cfg.keyCaps ∧ s.cfg.togglesOn rel = true then s.toggleKey else s.hostEmit (plainCall rel k)

/-- Step 3 of `decodeSlot` and what follows (R212, R214). -/
def State.lookupKey (rel : Bit) (scan : BitVec 7) (s : State) : State :=
  match s.cfg.keymapAt scan with
  | none => (s.presentScan scan).ignoreKey
  | some k => (s.presentScan scan).mappedKey rel k

/-- `decodeSlot(e)` (R212): sentinel, keymap, toggle, plain key, in that order. -/
def State.decodeSlot (e : Byte) (s : State) : State :=
  if s.cfg.powerKeyDetect = .scan7F ∧ eventScan e = scanSentinel then s.hookEmit (hookOf (eventRel e))
  else s.lookupKey (eventRel e) (eventScan e)

/-- Slot `k` begins: `slot_idx <- k`, activity PL_SLOT0 or PL_SLOT1 (R210, 10_state.md R30). -/
def State.beginSlot (k : Fin 2) (s : State) : State :=
  ({ s with slotIdx := k }).enter (if k = 0 then .plSlot0 else .plSlot1)

/-- Slot 1 of `decodeWord` (R210). -/
def State.decodeSecond (e : Byte) (s : State) : State := (s.beginSlot 1).decodeSlot e

/-- `decodeWord(w)` (R210): slot 0, then slot 1. -/
def State.decodeWord (w : BitVec 16) (s : State) : State :=
  ((s.beginSlot 0).push [.seq (.decodeSecond (slot1 w))]).decodeSlot (slot0 w)

/-! ## The program -/

/-- `bringUp()` (42_bring_up_and_poll.md R191): a reset pulse, then the read. -/
def State.bringUp (s : State) : State := ((s.enter .buReset).push [.seq .buRead]).resetPulse

/-- The read of `bringUp` (R191). -/
def State.buRead (s : State) : State :=
  ((s.enter .buRead).push [.seq .buCheck]).sendRead s.cfg.deviceAddr s.cfg.regBringup

/-- The end of the read of `bringUp` (R191, R192, R199): activate on a response, otherwise a new reset pulse. -/
def State.buCheck (s : State) : State :=
  if s.outcome = .response then (s.enter .buActivate).hostEmit .activate else s.bringUp

/-- `pollLoop()` (R196): the read of the key-event register. -/
def State.pollLoop (s : State) : State :=
  ((s.enter .plRead).push [.seq .plCheck]).sendRead s.cfg.deviceAddr s.cfg.regKeys

/-- The idle delay, then the next iteration (R196, R198). -/
def State.plIdle (s : State) : State :=
  ((s.enter .plIdle).push [.op .pollLoop]).hold .idle (s.cfg.ticks s.cfg.tPollIdle)

/-- `main()` (R190): `bringUp`, then `pollLoop`. -/
def State.main (s : State) : State := (s.push [.op .pollLoop]).bringUp

end Sys2Proof.Machine
end

