-- ==== Sys2Proof/Machine/Decoder.lean ====
section
/-! DEFINITION. Meanings of the event bytes, the response word and the key-event decoder (43_key_event_decoder.md). -/

namespace Sys2Proof.Machine

/-- EV_PRESS: what the decoder does with the byte `0sssssss`, in the order of tests of 43_key_event_decoder.md R212 (R215; log entry 9). -/
def execEvPress (scan : BitVec 7) (s : State) : Host.Outcome State Fault Refusal :=
  .next (s.decodeSlot (eventByte 0#1 scan))

/-- EV_RELEASE: the byte `1sssssss` (R215; log entry 9). -/
def execEvRelease (scan : BitVec 7) (s : State) : Host.Outcome State Fault Refusal :=
  .next (s.decodeSlot (eventByte 1#1 scan))

/-- EV_SENTINEL: the byte `r1111111` (R213; log entry 9). -/
def execEvSentinel (rel : Bit) (s : State) : Host.Outcome State Fault Refusal :=
  .next (s.decodeSlot (eventByte rel scanSentinel))

/-- EV_CAPS: the byte `r0111001`, the case-lock scan code at nominal (R216; log entry 9). -/
def execEvCaps (rel : Bit) (s : State) : Host.Outcome State Fault Refusal :=
  .next (s.decodeSlot (eventByte rel scanCaps))

/-- EV_UNMAPPED: the byte of a scan code; ignored when the keymap has no key for it (R214; log entry 9). -/
def execEvUnmapped (rel : Bit) (scan : BitVec 7) (s : State) : Host.Outcome State Fault Refusal :=
  .next (s.decodeSlot (eventByte rel scan))

/-- KEY_WORD: `decodeWord` of the response word (R210, 30_encoding.md R111). -/
def execKeyWord (e f : Byte) (s : State) : Host.Outcome State Fault Refusal :=
  .next (s.decodeWord (keyWordOf e f))

/-- `decodeWord(w)` (R210). -/
def execDecodeWord (w : BitVec 16) (s : State) : Host.Outcome State Fault Refusal :=
  .next (s.decodeWord w)

/-- `decodeSlot(e)` (R212). -/
def execDecodeSlot (e : Byte) (s : State) : Host.Outcome State Fault Refusal :=
  .next (s.decodeSlot e)

end Sys2Proof.Machine
end

