-- ==== Sys2Proof/Machine/HostPort.lean ====
section
/-! DEFINITION. Meanings of the host operations and of the power-key hooks (43_key_event_decoder.md R220, R222; 42_bring_up_and_poll.md R192). -/

namespace Sys2Proof.Machine

/-- press (R215, R220). -/
def execPress (k : LogicalKey) (s : State) : Host.Outcome State Fault Refusal :=
  .next (s.hostEmit (.press k))

/-- release (R215, R220). -/
def execRelease (k : LogicalKey) (s : State) : Host.Outcome State Fault Refusal :=
  .next (s.hostEmit (.release k))

/-- writeAndAutoRelease (R216, R220). -/
def execWriteAndAutoRelease (k : LogicalKey) (s : State) : Host.Outcome State Fault Refusal :=
  .next (s.hostEmit (.writeAndAutoRelease k))

/-- activate (42_bring_up_and_poll.md R192). -/
def execActivate (s : State) : Host.Outcome State Fault Refusal :=
  .next (s.hostEmit .activate)

/-- powerKeyPress: one tick of `hook_press` (R222; log entry 20). -/
def execPowerKeyPress (s : State) : Host.Outcome State Fault Refusal :=
  .next (s.hookEmit .powerKeyPress)

/-- powerKeyRelease: one tick of `hook_release` (R222; log entry 20). -/
def execPowerKeyRelease (s : State) : Host.Outcome State Fault Refusal :=
  .next (s.hookEmit .powerKeyRelease)

/-- `hostEmit(op, k)` (R220). -/
def execHostEmit (c : HostCall) (s : State) : Host.Outcome State Fault Refusal :=
  .next (s.hostEmit c)

/-- `hookEmit(h)` (R222). -/
def execHookEmit (h : HookEvent) (s : State) : Host.Outcome State Fault Refusal :=
  .next (s.hookEmit h)

end Sys2Proof.Machine
end

