-- ==== Sys2Proof/Machine/Indicators.lean ====
section
/-! DEFINITION. Meanings of the indicator word and of the indicator driver (44_indicator_driver.md). -/

namespace Sys2Proof.Machine

/-- LED_WORD: the word on its way to the indicator register, the payload of a write (44_indicator_driver.md R240, R242; log entry 10). -/
def execLedWord (sc ca nu : Bit) (s : State) : Host.Outcome State Fault Refusal :=
  .next (s.sendWrite s.cfg.deviceAddr s.cfg.regLeds (ledWordOf sc ca nu))

/-- WRITE_LEDS: the write of `writeIndicators` (R242). -/
def execWriteLeds (s : State) : Host.Outcome State Fault Refusal :=
  .next s.writeIndicators

/-- `packIndicators()`: zero ticks, no state of the block written (R240). -/
def execPackIndicators (s : State) : Host.Outcome State Fault Refusal :=
  .next s.pack

/-- `writeIndicators()` (R242). -/
def execWriteIndicators (s : State) : Host.Outcome State Fault Refusal :=
  .next s.writeIndicators

end Sys2Proof.Machine
end

