-- ==== Sys2Proof/Machine/Program.lean ====
section
/-! DEFINITION. Meanings of the fixed program (42_bring_up_and_poll.md). -/

namespace Sys2Proof.Machine

/-- `main()` (42_bring_up_and_poll.md R190). -/
def execMain (s : State) : Host.Outcome State Fault Refusal :=
  .next s.main

/-- `bringUp()` (R191). -/
def execBringUp (s : State) : Host.Outcome State Fault Refusal :=
  .next s.bringUp

/-- `pollLoop()` (R196). -/
def execPollLoop (s : State) : Host.Outcome State Fault Refusal :=
  .next s.pollLoop

end Sys2Proof.Machine
end

