-- ==== Sys2Proof/Machine/Protocol.lean ====
section
/-! DEFINITION. Meanings of the command bytes and of the command protocol engine (41_command_protocol.md, 30_encoding.md R97 to R104). -/

namespace Sys2Proof.Machine

/-- WRITE: `sendWrite(a, r, d)` (41_command_protocol.md R164). -/
def execWrite (a : BitVec 4) (r : BitVec 2) (d : BitVec 16) (s : State) : Host.Outcome State Fault Refusal :=
  .next (s.sendWrite a r d)

/-- READ: `sendReadRequest(a, r)` (R166). -/
def execRead (a : BitVec 4) (r : BitVec 2) (s : State) : Host.Outcome State Fault Refusal :=
  .next (s.sendRead a r)

/-- RESERVED_CODE_00: "a model gives them no operation and must refuse a request to emit one" (30_encoding.md R103). -/
def execReservedCode00 (_a : BitVec 4) (_r : BitVec 2) (_s : State) : Host.Outcome State Fault Refusal :=
  .refused (.reservedCode 0b00#2)

/-- RESERVED_CODE_01: refused like RESERVED_CODE_00 (R103). -/
def execReservedCode01 (_a : BitVec 4) (_r : BitVec 2) (_s : State) : Host.Outcome State Fault Refusal :=
  .refused (.reservedCode 0b01#2)

/-- READ_BRINGUP: `sendReadRequest(DEVICE_ADDR, REG_BRINGUP)` (42_bring_up_and_poll.md R191). -/
def execReadBringup (s : State) : Host.Outcome State Fault Refusal :=
  .next (s.sendRead s.cfg.deviceAddr s.cfg.regBringup)

/-- READ_KEYS: `sendReadRequest(DEVICE_ADDR, REG_KEYS)` (42_bring_up_and_poll.md R196). -/
def execReadKeys (s : State) : Host.Outcome State Fault Refusal :=
  .next (s.sendRead s.cfg.deviceAddr s.cfg.regKeys)

/-- `emitCommand(a, code, r)` (R162); a code that is neither `CMD_WRITE` nor `CMD_READ` is refused (30_encoding.md R103). -/
def execEmitCommand (a : BitVec 4) (code r : BitVec 2) (s : State) : Host.Outcome State Fault Refusal :=
  if s.cfg.isCommandCode code then .next (s.command a code r) else .refused (.reservedCode code)

/-- `sendWrite(a, r, d)` (R164). -/
def execSendWrite (a : BitVec 4) (r : BitVec 2) (d : BitVec 16) (s : State) : Host.Outcome State Fault Refusal :=
  .next (s.sendWrite a r d)

/-- `sendReadRequest(a, r)` (R166). -/
def execSendReadRequest (a : BitVec 4) (r : BitVec 2) (s : State) : Host.Outcome State Fault Refusal :=
  .next (s.sendRead a r)

end Sys2Proof.Machine
end

