-- ==== Sys2Proof/Machine/Signaling.lean ====
section
/-! DEFINITION. Meanings of the pin primitives, the timed symbols and the per-bit receive step (40_bit_signaling.md, 30_encoding.md R90 to R95). -/

namespace Sys2Proof.Machine

/-- BIT0: the 0 cell, `emitBit(0)` (30_encoding.md R91). -/
def execBit0 (s : State) : Host.Outcome State Fault Refusal :=
  .next (s.cell .bitLow .bitHigh 0#1)

/-- BIT1: the 1 cell, `emitBit(1)` (R91). -/
def execBit1 (s : State) : Host.Outcome State Fault Refusal :=
  .next (s.cell .bitLow .bitHigh 1#1)

/-- ATTN_SYNC: attention and sync (30_encoding.md R92). -/
def execAttnSync (s : State) : Host.Outcome State Fault Refusal :=
  .next s.attention

/-- RESET: the bus reset pulse (30_encoding.md R93); nothing of the block but the pin changes (70_reset_and_hazards.md R281). -/
def execReset (s : State) : Host.Outcome State Fault Refusal :=
  .next s.resetPulse

/-- STOP: `emitBit(STOP_BIT)` (30_encoding.md R94).  DESIGN CHOICE (log entry 16): issued by itself it stands at CSTOP_LOW
and CSTOP_HIGH, not at the DSTOP points. -/
def execStop (s : State) : Host.Outcome State Fault Refusal :=
  .next (s.cell .cstopLow .cstopHigh s.cfg.stopBit)

/-- START: `emitBit(START_BIT)` (R94). -/
def execStart (s : State) : Host.Outcome State Fault Refusal :=
  .next (s.cell .dstartLow .dstartHigh s.cfg.startBit)

/-- GAP: `releaseHigh(); delay(T_GAP)` (30_encoding.md R95). -/
def execGap (s : State) : Host.Outcome State Fault Refusal :=
  .next s.gapHigh

/-- `driveLow()`: zero ticks (40_bit_signaling.md R131). -/
def execDriveLow (s : State) : Host.Outcome State Fault Refusal :=
  .next (s.setPin .driveLow)

/-- `releaseHigh()`: zero ticks (R132). -/
def execReleaseHigh (s : State) : Host.Outcome State Fault Refusal :=
  .next (s.setPin .release)

/-- `sense()`: the level of the line at the current tick, zero ticks; 0 while the pin drives low (R133). -/
def execSense (s : State) : Host.Outcome State Fault Refusal :=
  .next s.senseLine

/-- `emitBit(bit)` (R134). -/
def execEmitBit (b : Bit) (s : State) : Host.Outcome State Fault Refusal :=
  .next (s.cell .bitLow .bitHigh b)

/-- `emitResetPulse()` (R135). -/
def execEmitResetPulse (s : State) : Host.Outcome State Fault Refusal :=
  .next s.resetPulse

/-- `emitAttention()` (R136). -/
def execEmitAttention (s : State) : Host.Outcome State Fault Refusal :=
  .next s.attention

/-- `sampleBit()` (R137): wait low, wait high, offset, sample; no bound on the waits. -/
def execSampleBit (s : State) : Host.Outcome State Fault Refusal :=
  .next s.rxLow

end Sys2Proof.Machine
end

