-- ==== Sys2Proof/Machine/Dispatch.lean ====
section
/-! DEFINITION. One arm per constructor of `Instr`: each calls the meaning of its instruction. -/

namespace Sys2Proof.Machine

def exec (i : Instr) (s : State) : Host.Outcome State Fault Refusal :=
  match i with
  | .write a r d => Sys2Proof.Machine.execWrite a r d s
  | .read a r => Sys2Proof.Machine.execRead a r s
  | .reservedCode00 a r => Sys2Proof.Machine.execReservedCode00 a r s
  | .reservedCode01 a r => Sys2Proof.Machine.execReservedCode01 a r s
  | .readBringup => Sys2Proof.Machine.execReadBringup s
  | .readKeys => Sys2Proof.Machine.execReadKeys s
  | .writeLeds => Sys2Proof.Machine.execWriteLeds s
  | .evPress scan => Sys2Proof.Machine.execEvPress scan s
  | .evRelease scan => Sys2Proof.Machine.execEvRelease scan s
  | .evSentinel rel => Sys2Proof.Machine.execEvSentinel rel s
  | .evCaps rel => Sys2Proof.Machine.execEvCaps rel s
  | .evUnmapped rel scan => Sys2Proof.Machine.execEvUnmapped rel scan s
  | .keyWord e f => Sys2Proof.Machine.execKeyWord e f s
  | .ledWord sc ca nu => Sys2Proof.Machine.execLedWord sc ca nu s
  | .bit0 => Sys2Proof.Machine.execBit0 s
  | .bit1 => Sys2Proof.Machine.execBit1 s
  | .attnSync => Sys2Proof.Machine.execAttnSync s
  | .reset => Sys2Proof.Machine.execReset s
  | .stop => Sys2Proof.Machine.execStop s
  | .start => Sys2Proof.Machine.execStart s
  | .gap => Sys2Proof.Machine.execGap s
  | .press k => Sys2Proof.Machine.execPress k s
  | .release k => Sys2Proof.Machine.execRelease k s
  | .writeAndAutoRelease k => Sys2Proof.Machine.execWriteAndAutoRelease k s
  | .activate => Sys2Proof.Machine.execActivate s
  | .powerKeyPress => Sys2Proof.Machine.execPowerKeyPress s
  | .powerKeyRelease => Sys2Proof.Machine.execPowerKeyRelease s
  | .driveLow => Sys2Proof.Machine.execDriveLow s
  | .releaseHigh => Sys2Proof.Machine.execReleaseHigh s
  | .sense => Sys2Proof.Machine.execSense s
  | .emitBit b => Sys2Proof.Machine.execEmitBit b s
  | .emitResetPulse => Sys2Proof.Machine.execEmitResetPulse s
  | .emitAttention => Sys2Proof.Machine.execEmitAttention s
  | .sampleBit => Sys2Proof.Machine.execSampleBit s
  | .emitCommand a code r => Sys2Proof.Machine.execEmitCommand a code r s
  | .sendWrite a r d => Sys2Proof.Machine.execSendWrite a r d s
  | .sendReadRequest a r => Sys2Proof.Machine.execSendReadRequest a r s
  | .main => Sys2Proof.Machine.execMain s
  | .bringUp => Sys2Proof.Machine.execBringUp s
  | .pollLoop => Sys2Proof.Machine.execPollLoop s
  | .decodeWord w => Sys2Proof.Machine.execDecodeWord w s
  | .decodeSlot e => Sys2Proof.Machine.execDecodeSlot e s
  | .hostEmit c => Sys2Proof.Machine.execHostEmit c s
  | .hookEmit h => Sys2Proof.Machine.execHookEmit h s
  | .packIndicators => Sys2Proof.Machine.execPackIndicators s
  | .writeIndicators => Sys2Proof.Machine.execWriteIndicators s

end Sys2Proof.Machine
end

