-- ==== Sys2Proof/Machine/Sequencer.lean ====
section
/-! DEFINITION. The statements of the pseudocode of files 40 to 44 that stand between two operations. -/

namespace Sys2Proof.Machine

/-- The end of the read of `pollLoop` (42_bring_up_and_poll.md R196, R197, R199): on a response decode the word,
then idle; on a timeout idle at once.  A response without a received word is refused (10_state.md R27, log
entry 17). -/
def runPlCheck (s : State) : Host.Outcome State Fault Refusal :=
  if s.outcome = .response then
    match s.rxWord with
    | some w => .next ((s.push [.seq .plIdle]).decodeWord w)
    | none => .refused .rxWordNoValue
  else .next s.plIdle

/-- One statement; the continuation no longer holds it. -/
def runSeq (t : SeqTask) (s : State) : Host.Outcome State Fault Refusal :=
  match t with
  | .play m p n => .next (s.play m p n)
  | .sendBits f => .next (s.sendBits f)
  | .nextBit f => .next (s.countBit.sendBits f)
  | .writeGap => .next s.writeGap
  | .writeData => .next s.writeData
  | .waitBegin => .next s.waitBegin
  | .waitNext => .next s.waitNext
  | .rxLow => .next s.rxLow
  | .rxHigh => .next s.rxHigh
  | .rxTake => .next s.senseLine
  | .rxBit => .next s.rxBit
  | .rxShift => .next s.rxShift
  | .buRead => .next s.buRead
  | .buCheck => .next s.buCheck
  | .plCheck => runPlCheck s
  | .plIdle => .next s.plIdle
  | .decodeSecond e => .next (s.decodeSecond e)
  | .hostTry c => .next (s.hostEmit c)
  | .hostDone => .next s.dropHost
  | .hookDone h => .next (s.dropHook h)

/-! ## Placing an instruction -/

/-- The intervals that do not hold a tick. -/
def spansWithout (t : Nat) : List (Nat × Nat) → List (Nat × Nat)
  | [] => []
  | (lo, hi) :: rest => if lo ≤ t ∧ t ≤ hi then spansWithout t rest else (lo, hi) :: spansWithout t rest

/-- A state whose next step runs an operation: it heads the continuation, no delay is in progress and `rst` is
low at the current tick (log entry 13). -/
def State.placed (i : Instr) (s : State) : State :=
  { s with
    timer := 0
    ctl := { s.ctl with rest := .op i :: s.ctl.rest }
    env := { s.env with rst := spansWithout s.now s.env.rst } }

/-- A state with nothing to run: what is placed for a word that is no instruction. -/
def State.placedNothing (s : State) : State :=
  { s with
    timer := 0
    ctl := { s.ctl with rest := [] }
    env := { s.env with rst := spansWithout s.now s.env.rst } }

end Sys2Proof.Machine
end

