-- ==== Sys2Proof/Machine/Step.lean ====
section
/-! DEFINITION. One step of the machine: a tick with `rst = 1`, a tick of the delay in progress, or the next
operation or statement of the program in zero time (00_scope.md R15, 10_state.md R31, log entry 1). -/

namespace Sys2Proof.Machine

/-- The head of the continuation runs; the rest of it follows. -/
def runTask (t : Task) (s : State) : Host.Outcome State Fault Refusal :=
  match t with
  | .op i => exec i s
  | .seq q => runSeq q s

/-- One step. -/
def step (s : State) : Host.Outcome State Fault Refusal :=
  if s.rst = true then .next s.blockReset
  else if s.timer ≠ 0 then .next s.tick
  else
    match s.ctl.rest with
    | [] => .refused .programEnded
    | t :: ts => runTask t (s.withRest ts)

/-- The instruction of a word of the table, placed where `step` takes its next operation (log entry 13). -/
def State.withFetchWord (s : State) (nbits w : Nat) : State :=
  match decodeTableWord nbits w with
  | some i => s.placed i
  | none => s.placedNothing

end Sys2Proof.Machine
end

