-- ==== Sys2Proof/Laws/PerInstr.lean ====
section
/-! SUPPORT. Statements about every instruction, one lemma per constructor. -/

namespace Sys2Proof.Laws.DecodedWellFormed

/-- Whatever decodes to the instruction, the instruction is well formed. -/
def Statement (i : Instr) : Prop := ∀ c, decode c = .ok i → WellFormed i = true

/-- The bytes that spell `READ_BRINGUP` and `READ_KEYS` are the only ones READ does not spell. -/
theorem readCanonical_of_byte : ∀ b : Byte, cmdCode b = 0b11#2 → b ≠ 0x2F#8 → b ≠ 0x2C#8 →
    readCanonical (cmdAddr b) (cmdReg b) = true := by decide

theorem commandByte_wf (b : Byte) (i : Instr) (h : decodeCommandByte b = .ok i) : WellFormed i = true := by
  unfold decodeCommandByte at h
  split at h
  · cases h; rfl
  · split at h
    · cases h; rfl
    · split at h
      · cases h; rfl
      · split at h
        · cases h; exact readCanonical_of_byte b ‹_› ‹_› ‹_›
        · split at h
          · cases h
          · split at h <;> cases h <;> rfl

theorem eventByte_wf (e : Byte) (mapped : Bool) : WellFormed (decodeEventByte e mapped) = true := by
  unfold decodeEventByte
  split
  · rfl
  · split
    · simpa [WellFormed, unmappedCanonical]
    · split
      · rfl
      · split <;> simp_all [WellFormed, eventCanonical]

theorem host_wf (op : BitVec 2) (key : Option LogicalKey) (i : Instr) (h : decodeHost op key = .ok i) :
    WellFormed i = true := by
  unfold decodeHost at h
  repeat' split at h
  all_goals first | cases h; rfl | cases h

theorem symbol_wf (place : Place) (wave : List Segment) (i : Instr) (h : decodeSymbol place wave = .ok i) :
    WellFormed i = true := by
  unfold decodeSymbol at h
  repeat' split at h
  all_goals first | cases h; rfl | cases h

theorem decode_wf (i : Instr) : Statement i := by
  intro c h
  unfold decode at h
  split at h
  · exact commandByte_wf _ i h
  · unfold decodeWriteCommand at h; split at h <;> cases h; rfl
  · cases h
  · cases h; exact eventByte_wf _ _
  · cases h
  · cases h; rfl
  · cases h
  · unfold decodeIndicator at h; split at h <;> cases h; rfl
  · cases h
  · exact host_wf _ _ i h
  · exact symbol_wf _ _ i h
  · cases h; rfl
  · cases h; rfl
  · cases h

theorem write (a : BitVec 4) (r : BitVec 2) (d : BitVec 16) : Statement (.write a r d) := decode_wf _
theorem read (a : BitVec 4) (r : BitVec 2) : Statement (.read a r) := decode_wf _
theorem reservedCode00 (a : BitVec 4) (r : BitVec 2) : Statement (.reservedCode00 a r) := decode_wf _
theorem reservedCode01 (a : BitVec 4) (r : BitVec 2) : Statement (.reservedCode01 a r) := decode_wf _
theorem readBringup : Statement .readBringup := decode_wf _
theorem readKeys : Statement .readKeys := decode_wf _
theorem writeLeds : Statement .writeLeds := decode_wf _
theorem evPress (scan : BitVec 7) : Statement (.evPress scan) := decode_wf _
theorem evRelease (scan : BitVec 7) : Statement (.evRelease scan) := decode_wf _
theorem evSentinel (rel : Bit) : Statement (.evSentinel rel) := decode_wf _
theorem evCaps (rel : Bit) : Statement (.evCaps rel) := decode_wf _
theorem evUnmapped (rel : Bit) (scan : BitVec 7) : Statement (.evUnmapped rel scan) := decode_wf _
theorem keyWord (e : Byte) (f : Byte) : Statement (.keyWord e f) := decode_wf _
theorem ledWord (sc : Bit) (ca : Bit) (nu : Bit) : Statement (.ledWord sc ca nu) := decode_wf _
theorem bit0 : Statement .bit0 := decode_wf _
theorem bit1 : Statement .bit1 := decode_wf _
theorem attnSync : Statement .attnSync := decode_wf _
theorem reset : Statement .reset := decode_wf _
theorem stop : Statement .stop := decode_wf _
theorem start : Statement .start := decode_wf _
theorem gap : Statement .gap := decode_wf _
theorem press (k : LogicalKey) : Statement (.press k) := decode_wf _
theorem release (k : LogicalKey) : Statement (.release k) := decode_wf _
theorem writeAndAutoRelease (k : LogicalKey) : Statement (.writeAndAutoRelease k) := decode_wf _
theorem activate : Statement .activate := decode_wf _
theorem powerKeyPress : Statement .powerKeyPress := decode_wf _
theorem powerKeyRelease : Statement .powerKeyRelease := decode_wf _
theorem driveLow : Statement .driveLow := decode_wf _
theorem releaseHigh : Statement .releaseHigh := decode_wf _
theorem sense : Statement .sense := decode_wf _
theorem emitBit (b : Bit) : Statement (.emitBit b) := decode_wf _
theorem emitResetPulse : Statement .emitResetPulse := decode_wf _
theorem emitAttention : Statement .emitAttention := decode_wf _
theorem sampleBit : Statement .sampleBit := decode_wf _
theorem emitCommand (a : BitVec 4) (code : BitVec 2) (r : BitVec 2) : Statement (.emitCommand a code r) := decode_wf _
theorem sendWrite (a : BitVec 4) (r : BitVec 2) (d : BitVec 16) : Statement (.sendWrite a r d) := decode_wf _
theorem sendReadRequest (a : BitVec 4) (r : BitVec 2) : Statement (.sendReadRequest a r) := decode_wf _
theorem main : Statement .main := decode_wf _
theorem bringUp : Statement .bringUp := decode_wf _
theorem pollLoop : Statement .pollLoop := decode_wf _
theorem decodeWord (w : BitVec 16) : Statement (.decodeWord w) := decode_wf _
theorem decodeSlot (e : Byte) : Statement (.decodeSlot e) := decode_wf _
theorem hostEmit (c : HostCall) : Statement (.hostEmit c) := decode_wf _
theorem hookEmit (h : HookEvent) : Statement (.hookEmit h) := decode_wf _
theorem packIndicators : Statement .packIndicators := decode_wf _
theorem writeIndicators : Statement .writeIndicators := decode_wf _

end Sys2Proof.Laws.DecodedWellFormed
end

