-- ==== Sys2Proof/Safety.lean ====
section
/-! DEFINITION. The terms the statements use: runs and what the wires carry during them, the waveforms of frames,
the assumptions about the environment (20_memory.md R70), admissible records, and the invariants. -/

namespace Sys2Proof.Machine

/-! ## Runs -/

/-- `k` steps. -/
def runN : Nat → State → Host.Outcome State Fault Refusal
  | 0, s => .next s
  | k + 1, s =>
    match step s with
    | .next t => runN k t
    | .fault r => .fault r
    | .refused r => .refused r

/-- Does the next step pass a tick (00_scope.md R15)? -/
def State.isTick (s : State) : Bool := s.rst || decide (s.timer ≠ 0)

/-- The outputs of the block during one tick (10_state.md R35). -/
structure Wires where
  pin : PinMode
  host : Option HostCall
  hookPress : Bool
  hookRelease : Bool
  deriving DecidableEq, Repr

/-- The outputs in a state; in a tick with `rst = 1` those of the reset state (70_reset_and_hazards.md R280). -/
def State.wires (s : State) : Wires :=
  if s.rst = true then { pin := .release, host := none, hookPress := false, hookRelease := false }
  else { pin := s.pinMode, host := s.hostPort, hookPress := s.hookPress, hookRelease := s.hookRelease }

/-- What the wires carry, tick by tick, during `k` steps. -/
def trace : Nat → State → List Wires
  | 0, _ => []
  | k + 1, s =>
    match step s with
    | .next t => if s.isTick then s.wires :: trace k t else trace k t
    | .fault _ => []
    | .refused _ => []

/-- From `s` the block reaches `t`, and in the ticks between its wires carry `ws`. -/
def Runs (s : State) (ws : List Wires) (t : State) : Prop :=
  ∃ k, runN k s = .next t ∧ trace k s = ws

/-- `rst` is low from the current tick to the `n`-th after it. -/
def State.QuietRst (s : State) (n : Nat) : Prop := ∀ d, d ≤ n → s.env.rstAt (s.now + d) = false

/-- The host can take an operation from the current tick to the `n`-th after it. -/
def State.HostTakes (s : State) (n : Nat) : Prop := ∀ d, d ≤ n → s.env.hostReady (s.now + d) = true

/-! ## Waveforms (00_scope.md R14) -/

/-- The pin, tick by tick, of a waveform. -/
def expand (w : List Segment) : List PinMode := w.flatMap (fun g => List.replicate g.2 g.1)

/-- The length of a waveform in ticks. -/
def waveTicks (w : List Segment) : Nat := (w.map (fun g => g.2)).sum

/-- The cell of a bit (30_encoding.md R91). -/
def cellWave (p : Params) (b : Bit) : List Segment := [(.driveLow, p.cellLow b), (.release, p.cellHigh b)]

/-- The cells of a list of bits, in order. -/
def bitsWave (p : Params) (bs : List Bit) : List Segment := bs.flatMap (cellWave p)

/-- Attention and sync (30_encoding.md R92). -/
def attentionWave (p : Params) : List Segment :=
  [(.driveLow, p.ticks p.tAttnLow), (.release, p.ticks p.tSyncHigh)]

/-- The reset pulse (30_encoding.md R93). -/
def resetWave (p : Params) : List Segment :=
  [(.driveLow, p.ticks p.tResetLow), (.release, p.ticks p.tResetSettle)]

/-- The command frame (30_encoding.md R97). -/
def commandWave (p : Params) (a : BitVec 4) (code r : BitVec 2) : List Segment :=
  attentionWave p ++ bitsWave p (msbFirst 8 (cmdByte a code r) ++ [p.stopBit])

/-- The write frame (30_encoding.md R98). -/
def writeWave (p : Params) (a : BitVec 4) (r : BitVec 2) (d : BitVec 16) : List Segment :=
  commandWave p a p.cmdWrite r ++ [(.release, p.ticks p.tGap)]
    ++ bitsWave p ([p.startBit] ++ msbFirst 16 d ++ [p.stopBit])

/-! ## The environment -/

/-- Is the `k`-th tick of a list of cells in a low phase? -/
def cellsLow (p : Params) : List Bit → Nat → Bool
  | [], _ => false
  | b :: bs, k =>
    if k < p.cellLow b then true
    else if k < p.cellTicks b then false
    else cellsLow p bs (k - p.cellTicks b)

/-- A response with the word `w` (20_memory.md R70 E2, E3; 95_test_vectors.md section 2.6): a start cell, sixteen data
cells, most significant first, and a stop cell, with the shapes the block itself gives them. -/
def responseCells (p : Params) (w : BitVec 16) : List Bit := [p.startBit] ++ msbFirst 16 w ++ [p.stopBit]

/-- The peripheral sends `w` from tick `tf` on, and holds the line at no other tick of the `n` ticks from `t0`. -/
def Responds (p : Params) (e : Env) (w : BitVec 16) (t0 n tf : Nat) : Prop :=
  ∀ t, t0 ≤ t → t < t0 + n → e.periphLow t = (decide (tf ≤ t) && cellsLow p (responseCells p w) (t - tf))

/-- The peripheral does not pull low during `n` ticks from `t0`. -/
def Silent (e : Env) (t0 n : Nat) : Prop := ∀ t, t0 ≤ t → t < t0 + n → e.periphLow t = false

/-- E1 of 20_memory.md R70, in one state: "only one side drives low at a time".  An assumption about the
peripheral, not a property of the block (70_reset_and_hazards.md R293). -/
def State.OneSideLow (s : State) : Prop := s.pinMode = .driveLow → s.env.periphLow s.now = false

/-- E6 of 20_memory.md R70, of one response word: the case-lock key is reported by releases only.  An assumption
about the peripheral; the decoder does not need it (43_key_event_decoder.md R217). -/
def CapsReleasesOnly (p : Params) (w : BitVec 16) : Prop :=
  ∀ e, (e = slot0 w ∨ e = slot1 w) → p.keymapAt (eventScan e) = some p.keyCaps → eventRel e = 1#1

/-- The receiver decodes what the transmitter's cells mean (41_command_protocol.md R173): the two inequalities, and
a settle interval that ends in the high phase of the start cell. -/
structure Receives (p : Params) : Prop where
  one : p.ticks p.tSampleOffset < p.cellHigh 1#1
  zero : p.cellHigh 0#1 ≤ p.ticks p.tSampleOffset
  next : p.ticks p.tSampleOffset < p.cellHigh 0#1 + min (p.cellLow 0#1) (p.cellLow 1#1)
  startLow : p.cellLow p.startBit ≤ p.ticks p.tRespSettle
  startHigh : p.ticks p.tRespSettle ≤ p.cellTicks p.startBit
  low0 : 0 < p.cellLow 0#1
  low1 : 0 < p.cellLow 1#1
  high0 : 0 < p.cellHigh 0#1

/-- An admissible record: 00_scope.md R8 (durations), R10 (the two constraints), R11 (bit positions), 20_memory.md R66
and R67 (keymap; an open entry is never `KEY_CAPS`, so exactly one listed scan code has it). -/
structure Admissible (p : Params) : Prop where
  ticks : 1 ≤ p.ticksPerUs
  durations : 1 ≤ p.tBit0Low ∧ 1 ≤ p.tBit0High ∧ 1 ≤ p.tBit1Low ∧ 1 ≤ p.tBit1High ∧ 1 ≤ p.tResetLow
    ∧ 1 ≤ p.tResetSettle ∧ 1 ≤ p.tAttnLow ∧ 1 ≤ p.tSyncHigh ∧ 1 ≤ p.tGap ∧ 1 ≤ p.tRespTimeout
    ∧ 1 ≤ p.tRespSettle ∧ 1 ≤ p.tSampleOffset
  codes : p.cmdWrite ≠ p.cmdRead
  registers : p.regKeys ≠ p.regLeds
  leds : p.ledBitNum < 16 ∧ p.ledBitCaps < 16 ∧ p.ledBitScroll < 16 ∧ p.ledBitNum ≠ p.ledBitCaps
    ∧ p.ledBitNum ≠ p.ledBitScroll ∧ p.ledBitCaps ≠ p.ledBitScroll
  rising : p.keymap.Pairwise (fun x y => x.1.toNat < y.1.toNat)
  pinned : p.keymap.lookup 0x00#7 = some (some (.char 'a')) ∧ p.keymap.lookup 0x0C#7 = some (some (.char 'q'))
    ∧ p.keymap.lookup 0x0D#7 = some (some (.char 'w')) ∧ p.keymap.lookup 0x24#7 = some (some .enter)
    ∧ p.keymap.lookup 0x7A#7 = some (some .f1)
  sentinel : p.keymap.lookup scanSentinel = some none
  caps : ∃ scan, p.keymapAt scan = some p.keyCaps ∧ ∀ other, p.keymapAt other = some p.keyCaps → other = scan
  capsKey : p.keyCaps ≠ .char 'a' ∧ p.keyCaps ≠ .char 'q' ∧ p.keyCaps ≠ .char 'w' ∧ p.keyCaps ≠ .enter
    ∧ p.keyCaps ≠ .f1

/-! ## Invariants -/

/-- The tasks after which the program goes on for ever (42_bring_up_and_poll.md R190). -/
def endlessTask : Task → Bool
  | .op .main => true
  | .op .pollLoop => true
  | .seq .plCheck => true
  | .seq .plIdle => true
  | _ => false

/-- The program that remains ends in the polling loop: there is no exit (R190). -/
def State.Endless (s : State) : Prop := ∃ ts t, s.ctl.rest = ts ++ [t] ∧ endlessTask t = true

/-- The `pin_mode` column of 10_state.md R30. -/
def Point.pin : Point → PinMode
  | .resetLow => .driveLow
  | .resetSettle => .release
  | .attnLow => .driveLow
  | .syncHigh => .release
  | .cmdLow _ => .driveLow
  | .cmdHigh _ => .release
  | .cstopLow => .driveLow
  | .cstopHigh => .release
  | .gap => .release
  | .dstartLow => .driveLow
  | .dstartHigh => .release
  | .dataLow _ => .driveLow
  | .dataHigh _ => .release
  | .dstopLow => .driveLow
  | .dstopHigh => .release
  | .waitStart => .release
  | .rxSettle => .release
  | .rxWaitLow _ => .release
  | .rxWaitHigh _ => .release
  | .rxOffset _ => .release
  | .hostWait => .release
  | .hostOp => .release
  | .hookOp => .release
  | .idle => .release
  | .bitLow => .driveLow
  | .bitHigh => .release

/-- The tasks the block's own program consists of: its operations, released segments, and the statements between. -/
def blockTask : Task → Bool
  | .op .main => true
  | .op .pollLoop => true
  | .op .writeIndicators => true
  | .op _ => false
  | .seq (.play m p _) => m = .release ∧ p.pin = .release
  | .seq _ => true

/-- 10_state.md R30 and 40_bit_signaling.md R139: during a delay the pin is in the mode of the control point, and a
low phase is followed by a release. -/
def State.PinDiscipline (s : State) : Prop :=
  (∀ t ∈ s.ctl.rest, blockTask t = true)
    ∧ (s.pinMode = .driveLow → ∃ p n ts, s.ctl.rest = .seq (.play .release p n) :: ts)
    ∧ (s.timer ≠ 0 → s.pinMode = s.ctl.point.pin)

/-- The operations and statements that call `sense()` (40_bit_signaling.md R139). -/
def listens : Task → Bool
  | .op .sense => true
  | .op .sampleBit => true
  | .seq .waitBegin => true
  | .seq .waitNext => true
  | .seq .rxLow => true
  | .seq .rxHigh => true
  | .seq .rxTake => true
  | .seq .rxBit => true
  | .seq .rxShift => true
  | _ => false

/-- The statements of a frame and of the reception: they touch no collaborator. -/
def frameTask : Task → Bool
  | .seq (.play _ _ _) => true
  | .seq (.sendBits _) => true
  | .seq (.nextBit _) => true
  | .seq .waitBegin => true
  | .seq .waitNext => true
  | .seq .rxLow => true
  | .seq .rxHigh => true
  | .seq .rxTake => true
  | .seq .rxBit => true
  | .seq .rxShift => true
  | _ => false

/-- The three statements of `bringUp` that stand last before the polling loop (42_bring_up_and_poll.md R191). -/
def bringUpTask : Task → Bool
  | .seq .buRead => true
  | .seq .buCheck => true
  | .seq (.hostTry .activate) => true
  | _ => false

/-- The program that remains is that of bring-up: nothing but frames before its last statement, then the polling
loop; or the whole program. -/
def inBringUp (rest : List Task) : Prop :=
  rest = [.op .main]
    ∨ ∃ q t, rest = q ++ [t, .op .pollLoop] ∧ (∀ x ∈ q, frameTask x = true) ∧ bringUpTask t = true

/-- The tasks of the polling loop: none of bring-up, no second activation. -/
def pollTask : Task → Bool
  | .op .pollLoop => true
  | .op .writeIndicators => true
  | .op _ => false
  | .seq .buRead => false
  | .seq .buCheck => false
  | .seq (.hostTry .activate) => false
  | .seq _ => true

/-- The two phases of life (60_exceptions.md R260; 42 R192, R193; 10_state.md R31): before activation the program is
that of bring-up and no operation stands on the host port or the hooks; after it there is no way back. -/
def State.Phases (s : State) : Prop :=
  (s.hostActive = false →
      inBringUp s.ctl.rest ∧ s.hostPort = none ∧ s.hookPress = false ∧ s.hookRelease = false
        ∧ (s.ctl.activity = .buReset ∨ s.ctl.activity = .buRead ∨ s.ctl.activity = .buActivate)
        ∧ (Task.seq (.hostTry .activate) ∈ s.ctl.rest → s.ctl.activity = .buActivate))
    ∧ (s.hostActive = true →
      (∀ t ∈ s.ctl.rest, pollTask t = true) ∧ s.ctl.activity ≠ .buReset ∧ s.ctl.activity ≠ .buRead)

/-- The statements that shift into `rx_word`. -/
def rxTask : Task → Bool
  | .seq .rxBit => true
  | .seq .rxShift => true
  | _ => false

/-- 10_state.md R27: a received word is there whenever something will read it. -/
def State.RxHeld (s : State) : Prop :=
  (s.outcome = .response ∨ ∃ t ∈ s.ctl.rest, rxTask t = true) → s.rxWord ≠ none

/-- 10_state.md R26: the bounds of the counters. -/
def State.CountersBounded (s : State) : Prop :=
  s.bitCnt ≤ 16 ∧ s.waitCnt ≤ s.cfg.ticks s.cfg.tRespTimeout

/-- 10_state.md R23: the two indicators without a writer. -/
def State.LocksUnlit (s : State) : Prop := s.indNum = false ∧ s.indScroll = false

end Sys2Proof.Machine
end

