-- ==== Sys2Proof/Certificates/Slice0/Obligations.lean ====
section
/-! DEFINITION. The statements for the provers, from the numbered rules of spec/. -/

open Sys2Proof Sys2Proof.Machine

/-! ## Reset and steps -/

/-- 10_state.md R36: the values of the block's state after reset; `rest` is the form this model gives to "about to run the
first statement of `main`" (log entry 2). -/
def Obligations.ResetLeavesListedValues : Prop :=
  State.reset.pinMode = .release ∧ State.reset.indNum = false ∧ State.reset.indCaps = false
    ∧ State.reset.indScroll = false ∧ State.reset.hostActive = false
    ∧ State.reset.ctl = { activity := .buReset, point := .resetLow, rest := [.op .main] }
    ∧ State.reset.timer = 0 ∧ State.reset.waitCnt = 0 ∧ State.reset.bitCnt = 0 ∧ State.reset.slotIdx = 0
    ∧ State.reset.txCmd = 0#8 ∧ State.reset.txData = 0#16 ∧ State.reset.rxWord = none
    ∧ State.reset.outcome = .none ∧ State.reset.lineDriveLow = false ∧ State.reset.hostValid = false
    ∧ State.reset.hookPress = false ∧ State.reset.hookRelease = false

/-- 70_reset_and_hazards.md R280: `rst` dominates at every tick, and at the first tick without it `main` runs.  The
values of `kmScan`, `retBit` and `retWord` are the model's (log entry 14) and are not stated.  The continuation about
to run `main` is log entry 2. -/
def Obligations.BlockResetDominatesEveryTick : Prop :=
  ∀ s : State, s.rst = true → ∃ t : State, step s = .next t
    ∧ t.pinMode = .release ∧ t.indNum = false ∧ t.indCaps = false ∧ t.indScroll = false ∧ t.hostActive = false
    ∧ t.outcome = .none ∧ t.rxWord = none ∧ t.timer = 0 ∧ t.waitCnt = 0 ∧ t.bitCnt = 0 ∧ t.slotIdx = 0
    ∧ t.txCmd = 0#8 ∧ t.txData = 0#16 ∧ t.hostPort = none ∧ t.hookPress = false ∧ t.hookRelease = false
    ∧ t.ctl = State.reset.ctl ∧ t.now = s.now + 1 ∧ t.cfg = s.cfg ∧ t.env = s.env
    ∧ s.wires = { pin := .release, host := none, hookPress := false, hookRelease := false }
    ∧ (t.rst = false → step t = exec .main (t.withRest []))

/-- 10_state.md R31, 00_scope.md R15: a tick of a delay decreases `timer` by one and changes nothing else. -/
def Obligations.DelayTickCountsDown : Prop :=
  ∀ (s : State) (n : Nat), s.rst = false → s.timer = n + 1 →
    step s = .next { s with timer := n, now := s.now + 1 }

/-- The step runs the operation at the head of the continuation, in zero time (log entries 1, 2). -/
def Obligations.StepRunsHeadOperation : Prop :=
  ∀ (s : State) (i : Instr) (ts : List Task), s.rst = false → s.timer = 0 → s.ctl.rest = .op i :: ts →
    step s = exec i { s with ctl := { s.ctl with rest := ts } }

/-- A placed word of the table is decoded and run by the next step (log entry 13). -/
def Obligations.StepRunsPlacedWord : Prop :=
  ∀ (s : State) (nbits w : Nat) (i : Instr), decodeTableWord nbits w = some i →
    step (s.withFetchWord nbits w)
      = exec i { s with timer := 0, env := { s.env with rst := spansWithout s.now s.env.rst } }

/-! ## Encoding -/

/-- A few words written out from 30_encoding.md R100, R102, R103, R110, R111, R120.  The encoded forms are the model's
(log entries 11, 24, 27). -/
def Obligations.SpecWordsDecode : Prop :=
  decode (.command [0b00101111#8]) = .ok .readBringup
    ∧ decode (.command [0b00101100#8]) = .ok .readKeys
    ∧ decode (.command [0b00101010#8]) = .ok .writeLeds
    ∧ decode (.command [0b11111111#8]) = .ok (.read 15#4 3#2)
    ∧ decode (.command [0b11111011#8, 0xA5#8, 0xC3#8]) = .ok (.write 15#4 3#2 0xA5C3#16)
    ∧ decode (.command [0b00100001#8]) = .ok (.reservedCode00 2#4 1#2)
    ∧ decode (.event [0b00001100#8] true) = .ok (.evPress 0x0C#7)
    ∧ decode (.event [0b10001101#8] true) = .ok (.evRelease 0x0D#7)
    ∧ decode (.response [0x0C#8, 0x8D#8]) = .ok (.keyWord 0x0C#8 0x8D#8)
    ∧ decode (.indicator [0xFF#8, 0b11111010#8]) = .ok (.ledWord 0#1 1#1 0#1)

/-- Decoding an encoded well-formed instruction gives it back, for every instruction with a bit pattern. -/
def Obligations.DecodeEncodeRoundTrip : Prop :=
  ∀ (i : Instr) (c : Code), WellFormed i = true → encode i = some c → decode c = .ok i

/-- 30_encoding.md R101: the bit-sequence view of frames and its round trip, for every record. -/
def Obligations.WriteBitsRoundTrip : Prop :=
  ∀ (p : Params) (a : BitVec 4) (r : BitVec 2) (d : BitVec 16),
    encodeCommandBits p a p.cmdWrite r = msbFirst 8 (cmdByte a p.cmdWrite r) ++ [p.stopBit]
      ∧ encodeReadBits p a r = msbFirst 8 (cmdByte a p.cmdRead r) ++ [p.stopBit]
      ∧ encodeWriteBits p a r d
        = msbFirst 8 (cmdByte a p.cmdWrite r) ++ [p.stopBit] ++ [p.startBit] ++ msbFirst 16 d ++ [p.stopBit]
      ∧ decodeWriteBits p (encodeWriteBits p a r d) = some (a, r, d)
      ∧ (∀ bs, decodeWriteBits p bs = some (a, r, d) → bs = encodeWriteBits p a r d)
      ∧ (encodeWriteBits p a r d).length = 27 ∧ (encodeReadBits p a r).length = 9
      ∧ ∀ bs, (decodeWriteBits p bs).isSome = true ↔
          bs.length = 27 ∧ (bs.drop 4).take 2 = msbFirst 2 p.cmdWrite ∧ (bs.drop 8).take 1 = [p.stopBit]
            ∧ (bs.drop 9).take 1 = [p.startBit] ∧ (bs.drop 26).take 1 = [p.stopBit]

/-- 30_encoding.md R100 and its decoding: the three fields of a command byte are read back. -/
def Obligations.CommandByteFields : Prop :=
  ∀ (a : BitVec 4) (code r : BitVec 2),
    cmdAddr (cmdByte a code r) = a ∧ cmdCode (cmdByte a code r) = code ∧ cmdReg (cmdByte a code r) = r
      ∧ (cmdByte a code r).toNat = 16 * a.toNat + 4 * code.toNat + r.toNat

/-! ## Pin primitives and symbols: the next state of each operation -/

/-- 40_bit_signaling.md R131, R132: the pin primitives, in zero ticks, with everything else unchanged. -/
def Obligations.PinPrimitives : Prop :=
  ∀ s : State,
    exec .driveLow s = .next { s with pinMode := .driveLow }
      ∧ ({ s with pinMode := .driveLow } : State).line = 0#1
      ∧ exec .releaseHigh s = .next { s with pinMode := .release }
      ∧ (({ s with pinMode := .release } : State).line = 0#1 ↔ s.env.periphLow s.now = true)

/-- The state in which a symbol has begun: the pin is low for `nLow` ticks and is then released for `nHigh`. -/
def symbolBegun (s : State) (pLow : Point) (nLow : Nat) (pHigh : Point) (nHigh : Nat) : State :=
  { s with
    pinMode := .driveLow
    timer := nLow
    ctl := { s.ctl with point := pLow, rest := .seq (.play .release pHigh nHigh) :: s.ctl.rest } }

/-- 40_bit_signaling.md R134, R135, R136, 30_encoding.md R90, R94, R95: how each symbol and its operation begin.  The
continuation and the points of a cell or a stop cell outside a frame are the model's (log entries 2, 16). -/
def Obligations.SymbolsBegin : Prop :=
  ∀ s : State,
    exec .bit0 s = .next (symbolBegun s .bitLow (s.cfg.tBit0Low * s.cfg.ticksPerUs)
        .bitHigh (s.cfg.tBit0High * s.cfg.ticksPerUs))
      ∧ exec .bit1 s = .next (symbolBegun s .bitLow (s.cfg.tBit1Low * s.cfg.ticksPerUs)
        .bitHigh (s.cfg.tBit1High * s.cfg.ticksPerUs))
      ∧ exec (.emitBit 0#1) s = exec .bit0 s ∧ exec (.emitBit 1#1) s = exec .bit1 s
      ∧ exec .attnSync s = .next (symbolBegun s .attnLow (s.cfg.tAttnLow * s.cfg.ticksPerUs)
        .syncHigh (s.cfg.tSyncHigh * s.cfg.ticksPerUs))
      ∧ exec .emitAttention s = .next (symbolBegun s .attnLow (s.cfg.tAttnLow * s.cfg.ticksPerUs)
        .syncHigh (s.cfg.tSyncHigh * s.cfg.ticksPerUs))
      ∧ exec .reset s = .next (symbolBegun s .resetLow (s.cfg.tResetLow * s.cfg.ticksPerUs)
        .resetSettle (s.cfg.tResetSettle * s.cfg.ticksPerUs))
      ∧ exec .emitResetPulse s = .next (symbolBegun s .resetLow (s.cfg.tResetLow * s.cfg.ticksPerUs)
        .resetSettle (s.cfg.tResetSettle * s.cfg.ticksPerUs))
      ∧ exec .stop s = .next (symbolBegun s .cstopLow (s.cfg.cellLow s.cfg.stopBit)
        .cstopHigh (s.cfg.cellHigh s.cfg.stopBit))
      ∧ exec .start s = .next (symbolBegun s .dstartLow (s.cfg.cellLow s.cfg.startBit)
        .dstartHigh (s.cfg.cellHigh s.cfg.startBit))
      ∧ exec .gap s = .next { s with
          pinMode := .release, timer := s.cfg.tGap * s.cfg.ticksPerUs, ctl := { s.ctl with point := .gap } }

/-- 40_bit_signaling.md R137: what `sampleBit` does at its first tick, by the level of the line.  The index of the
point is the model's (log entry 16). -/
def Obligations.SampleBitBegins : Prop :=
  ∀ s : State,
    (s.line = 1#1 → exec .sampleBit s = .next { s with
        timer := 1
        ctl := { s.ctl with point := .rxWaitLow (s.bitCnt - 1), rest := .seq .rxLow :: s.ctl.rest } })
      ∧ (s.line = 0#1 → exec .sampleBit s = .next { s with
        timer := 1
        ctl := { s.ctl with point := .rxWaitHigh (s.bitCnt - 1), rest := .seq .rxHigh :: s.ctl.rest } })

/-! ## The command protocol: the next state of each operation -/

/-- The state in which a command frame has begun (41_command_protocol.md R162). -/
def commandBegun (s : State) (a : BitVec 4) (code r : BitVec 2) (after : List Task) : State :=
  { s with
    pinMode := .driveLow
    timer := s.cfg.tAttnLow * s.cfg.ticksPerUs
    txCmd := cmdByte a code r
    bitCnt := 8
    ctl := { s.ctl with
      point := .attnLow
      rest := .seq (.play .release .syncHigh (s.cfg.tSyncHigh * s.cfg.ticksPerUs)) :: .seq (.sendBits .cmd)
        :: (after ++ s.ctl.rest) } }

/-- 41_command_protocol.md R162: `emitCommand` with one of the two codes loads the command byte and begins the frame
(`bit_cnt` by log entry 31). -/
def Obligations.EmitCommandBegins : Prop :=
  ∀ (s : State) (a : BitVec 4) (code r : BitVec 2), code = s.cfg.cmdWrite ∨ code = s.cfg.cmdRead →
    exec (.emitCommand a code r) s = .next (commandBegun s a code r [])

/-- 30_encoding.md R103: a request to emit a reserved code is refused, and no step ever loads another code than the
two commands.  That the two rows are refused also under a record that uses their codes is log entry 25. -/
def Obligations.ReservedCodesNeverEmitted : Prop :=
  (∀ (s : State) (a : BitVec 4) (r : BitVec 2),
      exec (.reservedCode00 a r) s = .refused (.reservedCode 0b00#2)
        ∧ exec (.reservedCode01 a r) s = .refused (.reservedCode 0b01#2))
    ∧ (∀ (s : State) (a : BitVec 4) (code r : BitVec 2), code ≠ s.cfg.cmdWrite → code ≠ s.cfg.cmdRead →
      exec (.emitCommand a code r) s = .refused (.reservedCode code))
    ∧ ∀ s t : State, step s = .next t → s.rst = false →
      t.txCmd = s.txCmd ∨ cmdCode t.txCmd = s.cfg.cmdWrite ∨ cmdCode t.txCmd = s.cfg.cmdRead

/-- The state in which a register write has begun (41_command_protocol.md R164). -/
def writeBegun (s : State) (a : BitVec 4) (r : BitVec 2) (d : BitVec 16) : State :=
  commandBegun { s with txData := d } a s.cfg.cmdWrite r [.seq .writeGap]

/-- 41_command_protocol.md R164, 44_indicator_driver.md R242: how the writes begin.  That LED_WORD as an instruction
is the payload of a write to the indicator register is the model's reading (log entry 10).  That WRITE carries its
data word is log entry 11, and that `bit_cnt` is 8 during the attention is log entry 31. -/
def Obligations.WritesBegin : Prop :=
  ∀ s : State,
    (∀ (a : BitVec 4) (r : BitVec 2) (d : BitVec 16),
        exec (.sendWrite a r d) s = .next (writeBegun s a r d) ∧ exec (.write a r d) s = .next (writeBegun s a r d))
      ∧ exec .writeIndicators s = .next (writeBegun s s.cfg.deviceAddr s.cfg.regLeds
          (s.cfg.indicatorWord s.indNum s.indCaps s.indScroll))
      ∧ exec .writeLeds s = .next (writeBegun s s.cfg.deviceAddr s.cfg.regLeds
          (s.cfg.indicatorWord s.indNum s.indCaps s.indScroll))
      ∧ ∀ sc ca nu : Bit, exec (.ledWord sc ca nu) s = .next (writeBegun s s.cfg.deviceAddr s.cfg.regLeds
          (0x1FFF#13 ++ sc ++ ca ++ nu))

/-- 41_command_protocol.md R166, 42_bring_up_and_poll.md R191, R196: how the reads begin.  That `bit_cnt` is 8 during
the attention is the model's choice (log entry 31). -/
def Obligations.ReadsBegin : Prop :=
  ∀ s : State,
    (∀ (a : BitVec 4) (r : BitVec 2),
        exec (.sendReadRequest a r) s = .next (commandBegun s a s.cfg.cmdRead r [.seq .waitBegin])
          ∧ exec (.read a r) s = .next (commandBegun s a s.cfg.cmdRead r [.seq .waitBegin]))
      ∧ exec .readBringup s
          = .next (commandBegun s s.cfg.deviceAddr s.cfg.cmdRead s.cfg.regBringup [.seq .waitBegin])
      ∧ exec .readKeys s
          = .next (commandBegun s s.cfg.deviceAddr s.cfg.cmdRead s.cfg.regKeys [.seq .waitBegin])

/-- 42_bring_up_and_poll.md R190, R191, R196: how the parts of the fixed program begin.  That `bit_cnt` is 8 during
the attention of `pollLoop` is the model's choice (log entry 31). -/
def Obligations.ProgramBegins : Prop :=
  ∀ s : State,
    exec .bringUp s = .next (symbolBegun
        { s with ctl := { s.ctl with activity := .buReset, rest := .seq .buRead :: s.ctl.rest } }
        .resetLow (s.cfg.tResetLow * s.cfg.ticksPerUs) .resetSettle (s.cfg.tResetSettle * s.cfg.ticksPerUs))
      ∧ exec .main s = exec .bringUp { s with ctl := { s.ctl with rest := .op .pollLoop :: s.ctl.rest } }
      ∧ exec .pollLoop s = .next (commandBegun
        { s with ctl := { s.ctl with activity := .plRead, rest := .seq .plCheck :: s.ctl.rest } }
        s.cfg.deviceAddr s.cfg.cmdRead s.cfg.regKeys [.seq .waitBegin])

/-! ## Collaborators and the decoder: the next state of each operation -/

/-- The state in which an operation is handed to the host, or the host is waited for (43_key_event_decoder.md R220). -/
def hostBegun (s : State) (c : HostCall) : State :=
  if s.hostReady = true then
    { s with
      hostPort := some c
      hostActive := s.hostActive || decide (c = .activate)
      timer := 1
      ctl := { s.ctl with point := .hostOp, rest := .seq .hostDone :: s.ctl.rest } }
  else
    { s with timer := 1, ctl := { s.ctl with point := .hostWait, rest := .seq (.hostTry c) :: s.ctl.rest } }

/-- 43_key_event_decoder.md R220, 42_bring_up_and_poll.md R192: the host operations.  That `host_active` is set at the
tick of the hand-over is log entry 8. -/
def Obligations.HostOperationsBegin : Prop :=
  ∀ s : State,
    (∀ k, exec (.press k) s = .next (hostBegun s (.press k)))
      ∧ (∀ k, exec (.release k) s = .next (hostBegun s (.release k)))
      ∧ (∀ k, exec (.writeAndAutoRelease k) s = .next (hostBegun s (.writeAndAutoRelease k)))
      ∧ exec .activate s = .next (hostBegun s .activate)
      ∧ ∀ c, exec (.hostEmit c) s = .next (hostBegun s c)

/-- The state in which a hook's strobe is up (43_key_event_decoder.md R222). -/
def hookBegun (s : State) (h : HookEvent) : State :=
  { s with
    hookPress := s.hookPress || decide (h = .powerKeyPress)
    hookRelease := s.hookRelease || decide (h = .powerKeyRelease)
    timer := 1
    ctl := { s.ctl with point := .hookOp, rest := .seq (.hookDone h) :: s.ctl.rest } }

/-- 43_key_event_decoder.md R222: the hooks, with no handshake.  That a hook by itself does not test POWER_KEY_DETECT
is log entry 20. -/
def Obligations.HooksBegin : Prop :=
  ∀ s : State,
    exec .powerKeyPress s = .next (hookBegun s .powerKeyPress)
      ∧ exec .powerKeyRelease s = .next (hookBegun s .powerKeyRelease)
      ∧ ∀ h, exec (.hookEmit h) s = .next (hookBegun s h)

/-- 43_key_event_decoder.md R212: the branches of `decodeSlot`, in their order, for every event byte.  A press of the
case-lock scan code toggles like a release (R216, R217) or is a plain press (93_implementation_defined.md U20) by the
parameter of log entry 22.  That `km_scan` holds the scan code afterwards is log entry 30. -/
def Obligations.EventByteBranches : Prop :=
  ∀ (rel : Bit) (scan : BitVec 7) (s : State),
    (s.cfg.powerKeyDetect = .scan7F → scan = 0x7F#7 → exec (.decodeSlot (rel ++ scan)) s
        = .next (hookBegun s (if rel = 0#1 then .powerKeyPress else .powerKeyRelease)))
      ∧ (s.cfg.powerKeyDetect = .never ∨ scan ≠ 0x7F#7 →
        (s.cfg.keymapAt scan = none → exec (.decodeSlot (rel ++ scan)) s = .next { s with kmScan := scan })
          ∧ (s.cfg.keymapAt scan = some s.cfg.keyCaps → s.cfg.capsTransition = .any ∨ rel = 1#1 → exec (.decodeSlot (rel ++ scan)) s = .next (hostBegun
              { s with
                kmScan := scan
                indCaps := !s.indCaps
                ctl := { s.ctl with rest := .op .writeIndicators :: s.ctl.rest } }
              (.writeAndAutoRelease s.cfg.keyCaps)))
          ∧ ∀ k, s.cfg.keymapAt scan = some k →
            k ≠ s.cfg.keyCaps ∨ (s.cfg.capsTransition = .releaseOnly ∧ rel = 0#1) → exec (.decodeSlot (rel ++ scan)) s = .next (hostBegun
              { s with kmScan := scan } (if rel = 0#1 then .press k else .release k)))

/-- 30_encoding.md R110, 43_key_event_decoder.md R211, R212: the event rows of the table do what the decoder does with
their byte, in every state (log entry 9). -/
def Obligations.EventRowsDecodeTheirByte : Prop :=
  ∀ (rel : Bit) (scan : BitVec 7) (s : State),
    (∃ t : State, exec (.evPress scan) s = .next t ∧ exec (.decodeSlot (0#1 ++ scan)) s = .next t)
      ∧ (∃ t : State, exec (.evRelease scan) s = .next t ∧ exec (.decodeSlot (1#1 ++ scan)) s = .next t)
      ∧ (∃ t : State, exec (.evSentinel rel) s = .next t ∧ exec (.decodeSlot (rel ++ 0x7F#7)) s = .next t)
      ∧ (∃ t : State, exec (.evCaps rel) s = .next t ∧ exec (.decodeSlot (rel ++ 0x39#7)) s = .next t)
      ∧ ∃ t : State, exec (.evUnmapped rel scan) s = .next t ∧ exec (.decodeSlot (rel ++ scan)) s = .next t

/-- 43_key_event_decoder.md R210: `decodeWord` decodes slot 0 first, with slot 1 waiting. -/
def Obligations.WordDecodesSlotZeroFirst : Prop :=
  ∀ (s : State) (e f : Byte), ∃ t : State,
    exec (.decodeSlot e)
        { s with slotIdx := 0, ctl := { s.ctl with activity := .plSlot0, rest := .seq (.decodeSecond f) :: s.ctl.rest } }
      = .next t
      ∧ exec (.decodeWord (e ++ f)) s = .next t ∧ exec (.keyWord e f) s = .next t

/-- 43_key_event_decoder.md R210, 42_bring_up_and_poll.md R199: after slot 0 the step decodes slot 1, whatever its byte. -/
def Obligations.SlotOneIsDecodedNext : Prop :=
  ∀ (s : State) (f : Byte) (ts : List Task), s.rst = false → s.timer = 0 → s.ctl.rest = .seq (.decodeSecond f) :: ts →
    ∃ t : State,
      exec (.decodeSlot f) { s with slotIdx := 1, ctl := { s.ctl with activity := .plSlot1, rest := ts } } = .next t
        ∧ step s = .next t

/-- 44_indicator_driver.md R240, 30_encoding.md R120: `packIndicators` clears exactly the bits of the lit indicators,
and writes no state of the block (`retWord` is the model's result register, log entry 15). -/
def Obligations.PackIndicatorsActiveLow : Prop :=
  (∀ s : State, exec .packIndicators s
      = .next { s with retWord := s.cfg.indicatorWord s.indNum s.indCaps s.indScroll })
    ∧ (∀ (p : Params) (num caps scroll : Bool) (j : Nat), Admissible p → j < 16 →
      ((p.indicatorWord num caps scroll).getLsbD j = false ↔
        (num = true ∧ j = p.ledBitNum) ∨ (caps = true ∧ j = p.ledBitCaps)
          ∨ (scroll = true ∧ j = p.ledBitScroll)))

/-- 44_indicator_driver.md R241: the table at the nominal positions; with the two indicators that nothing in the block
writes at 0, only its first two rows occur. -/
def Obligations.PackTableNominal : Prop :=
  Params.nominal.indicatorWord false false false = 0xFFFF#16
    ∧ Params.nominal.indicatorWord false true false = 0xFFFD#16
    ∧ Params.nominal.indicatorWord true false false = 0xFFFE#16
    ∧ Params.nominal.indicatorWord false false true = 0xFFFB#16
    ∧ Params.nominal.indicatorWord true false true = 0xFFFA#16
    ∧ Params.nominal.indicatorWord true true false = 0xFFFC#16
    ∧ Params.nominal.indicatorWord false true true = 0xFFF9#16
    ∧ Params.nominal.indicatorWord true true true = 0xFFF8#16
    ∧ ∀ s : State, s.LocksUnlit → s.cfg.ledBitNum = 0 → s.cfg.ledBitCaps = 1 → s.cfg.ledBitScroll = 2 →
      s.cfg.indicatorWord s.indNum s.indCaps s.indScroll = if s.indCaps = true then 0xFFFD#16 else 0xFFFF#16

/-! ## Operations run to their end -/

/-- The collaborators' wires keep the values of a state. -/
def QuietPorts (s : State) (ws : List Wires) : Prop :=
  ∀ w ∈ ws, w.host = s.hostPort ∧ w.hookPress = s.hookPress ∧ w.hookRelease = s.hookRelease

/-- 40_bit_signaling.md R134, 30_encoding.md R91, R94: a cell, from its first tick to its return, and its frame: nothing
of the block changes but the pin, time and the control point. -/
def Obligations.CellWaveform : Prop :=
  ∀ (s : State) (b : Bit) (i : Instr),
    (i = .emitBit b ∨ (i = .bit0 ∧ b = 0#1) ∨ (i = .bit1 ∧ b = 1#1) ∨ (i = .stop ∧ b = s.cfg.stopBit)
      ∨ (i = .start ∧ b = s.cfg.startBit)) →
    s.QuietRst (s.cfg.cellTicks b) →
    ∃ (t : State) (ws : List Wires) (p : Point), exec i s = .next t
      ∧ Runs t ws { s with
          pinMode := .release, timer := 0, now := s.now + s.cfg.cellTicks b
          ctl := { s.ctl with point := p } }
      ∧ ws.map Wires.pin = expand (cellWave s.cfg b) ∧ QuietPorts s ws

/-- 40_bit_signaling.md R135, R136, 70_reset_and_hazards.md R281: attention and the reset pulse, and their frame: the
bus reset changes nothing of the block but the pin. -/
def Obligations.AttentionAndResetWaveforms : Prop :=
  ∀ s : State,
    (∀ i, (i = .attnSync ∨ i = .emitAttention) → s.QuietRst (waveTicks (attentionWave s.cfg)) →
      ∃ (t : State) (ws : List Wires), exec i s = .next t
        ∧ Runs t ws { s with
            pinMode := .release, timer := 0, now := s.now + waveTicks (attentionWave s.cfg)
            ctl := { s.ctl with point := .syncHigh } }
        ∧ ws.map Wires.pin = expand (attentionWave s.cfg) ∧ QuietPorts s ws)
      ∧ (∀ i, (i = .reset ∨ i = .emitResetPulse) → s.QuietRst (waveTicks (resetWave s.cfg)) →
        ∃ (t : State) (ws : List Wires), exec i s = .next t
          ∧ Runs t ws { s with
              pinMode := .release, timer := 0, now := s.now + waveTicks (resetWave s.cfg)
              ctl := { s.ctl with point := .resetSettle } }
          ∧ ws.map Wires.pin = expand (resetWave s.cfg) ∧ QuietPorts s ws)

/-- 41_command_protocol.md R162, 30_encoding.md R97: the command frame, tick by tick, and what it leaves (that `bit_cnt` is
0 between fields is log entry 31). -/
def Obligations.CommandFrameWaveform : Prop :=
  ∀ (s : State) (a : BitVec 4) (code r : BitVec 2), code = s.cfg.cmdWrite ∨ code = s.cfg.cmdRead →
    s.QuietRst (waveTicks (commandWave s.cfg a code r)) →
    ∃ (t : State) (ws : List Wires), exec (.emitCommand a code r) s = .next t
      ∧ Runs t ws { s with
          pinMode := .release, timer := 0, txCmd := cmdByte a code r, bitCnt := 0
          now := s.now + waveTicks (commandWave s.cfg a code r)
          ctl := { s.ctl with point := .cstopHigh } }
      ∧ ws.map Wires.pin = expand (commandWave s.cfg a code r) ∧ QuietPorts s ws

/-- 41_command_protocol.md R164, 30_encoding.md R98: the write frame, tick by tick, and what it leaves; `outcome` is not
touched and the line is never sensed (that `bit_cnt` is 0 between fields is log entry 31). -/
def Obligations.WriteFrameWaveform : Prop :=
  ∀ (s : State) (a : BitVec 4) (r : BitVec 2) (d : BitVec 16), s.QuietRst (waveTicks (writeWave s.cfg a r d)) →
    ∃ (t : State) (ws : List Wires), exec (.sendWrite a r d) s = .next t
      ∧ Runs t ws { s with
          pinMode := .release, timer := 0, txCmd := cmdByte a s.cfg.cmdWrite r, txData := d, bitCnt := 0
          now := s.now + waveTicks (writeWave s.cfg a r d)
          ctl := { s.ctl with point := .dstopHigh } }
      ∧ ws.map Wires.pin = expand (writeWave s.cfg a r d) ∧ QuietPorts s ws

/-- The tick at which the bounded wait of a read begun in `s` starts (41_command_protocol.md R167). -/
def waitFrom (s : State) (a : BitVec 4) (r : BitVec 2) : Nat :=
  s.now + waveTicks (commandWave s.cfg a s.cfg.cmdRead r)

/-- The polls of the bounded wait (R167, 10_state.md R26). -/
def polls (s : State) : Nat := s.cfg.tRespTimeout * s.cfg.ticksPerUs

/-- 41_command_protocol.md R167, R171, 60_exceptions.md R251, R257: when every poll sees the line high the read returns
`timeout` at tick `t_c + T_RESP_TIMEOUT`, and the only state written after the frame is `wait_cnt` and `outcome`.  The
number of polls is log entry 7, `bit_cnt` log entry 31. -/
def Obligations.ReadTimesOut : Prop :=
  ∀ (s : State) (a : BitVec 4) (r : BitVec 2) (i : Instr), (i = .sendReadRequest a r ∨ i = .read a r) →
    Silent s.env (waitFrom s a r) (polls s) →
    s.QuietRst (waveTicks (commandWave s.cfg a s.cfg.cmdRead r) + polls s) →
    ∃ (t : State) (ws : List Wires) (p : Point), exec i s = .next t
      ∧ Runs t ws { s with
          pinMode := .release, timer := 0, txCmd := cmdByte a s.cfg.cmdRead r, bitCnt := 0, waitCnt := 0
          outcome := .timeout, now := waitFrom s a r + polls s
          ctl := { s.ctl with point := p } }
      ∧ ws.map Wires.pin
          = expand (commandWave s.cfg a s.cfg.cmdRead r ++ [(.release, polls s)])
      ∧ QuietPorts s ws

/-- 41_command_protocol.md R166, R167, R168: the first poll that sees the line low starts the reception, whatever the
line did before the wait (`bit_cnt` by log entry 31).  The number of polls is log entry 7. -/
def Obligations.ReadStartDetected : Prop :=
  ∀ (s : State) (a : BitVec 4) (r : BitVec 2) (i : Instr) (k : Nat), (i = .sendReadRequest a r ∨ i = .read a r) →
    k < polls s → Silent s.env (waitFrom s a r) k → s.env.periphLow (waitFrom s a r + k) = true →
    s.QuietRst (waveTicks (commandWave s.cfg a s.cfg.cmdRead r) + k) →
    ∃ (t : State) (ws : List Wires), exec i s = .next t
      ∧ Runs t ws { s with
          pinMode := .release, timer := s.cfg.tRespSettle * s.cfg.ticksPerUs
          txCmd := cmdByte a s.cfg.cmdRead r, bitCnt := 16, waitCnt := polls s - k, rxWord := some 0#16
          now := waitFrom s a r + k
          ctl := { s.ctl with point := .rxSettle, rest := .seq .rxBit :: s.ctl.rest } }

/-- The length of the response's cells in ticks. -/
def responseTicks (p : Params) (w : BitVec 16) : Nat := waveTicks (bitsWave p (responseCells p w))

/-- 41_command_protocol.md R173, R166, R169: a response with the shapes the block itself gives its cells is received
as it was sent, whatever the word, and the read returns at the 16th sample.  The number of polls, the result register
and `bit_cnt` are log entries 7, 15, 31. -/
def Obligations.ReadLoopBack : Prop :=
  ∀ (s : State) (a : BitVec 4) (r : BitVec 2) (i : Instr) (w : BitVec 16) (k : Nat),
    (i = .sendReadRequest a r ∨ i = .read a r) → Receives s.cfg → k < polls s →
    Responds s.cfg s.env w (waitFrom s a r) (polls s + responseTicks s.cfg w) (waitFrom s a r + k) →
    s.QuietRst (waveTicks (commandWave s.cfg a s.cfg.cmdRead r) + polls s + responseTicks s.cfg w) →
    ∃ (t : State) (ws : List Wires) (p : Point), exec i s = .next t
      ∧ Runs t ws { s with
          pinMode := .release, timer := 0, txCmd := cmdByte a s.cfg.cmdRead r, bitCnt := 0
          waitCnt := polls s - k, rxWord := some w, outcome := .response
          retBit := w.extractLsb' 0 1
          now := waitFrom s a r + k + waveTicks (bitsWave s.cfg ([s.cfg.startBit] ++ (msbFirst 16 w).take 15))
            + s.cfg.cellLow (w.extractLsb' 0 1) + s.cfg.tSampleOffset * s.cfg.ticksPerUs
          ctl := { s.ctl with point := p } }
      ∧ QuietPorts s ws

/-- 40_bit_signaling.md R137: the sample is the level at exactly `T_SAMPLE_OFFSET` after the first tick at which the
line is high again after a low phase.  The result register and the index of the point are log entries 15, 16. -/
def Obligations.SampleBitAtOffset : Prop :=
  ∀ (s : State) (high low : Nat), s.pinMode = .release → 0 < low →
    (∀ d, d < high → s.env.periphLow (s.now + d) = false) →
    (∀ d, d < low → s.env.periphLow (s.now + high + d) = true) →
    s.env.periphLow (s.now + high + low) = false →
    s.QuietRst (high + low + s.cfg.tSampleOffset * s.cfg.ticksPerUs) →
    ∃ (t : State) (ws : List Wires), exec .sampleBit s = .next t
      ∧ Runs t ws { s with
          timer := 0
          retBit := s.env.line .release (s.now + high + low + s.cfg.tSampleOffset * s.cfg.ticksPerUs)
          now := s.now + high + low + s.cfg.tSampleOffset * s.cfg.ticksPerUs
          ctl := { s.ctl with point := .rxOffset (s.bitCnt - 1) } }
      ∧ QuietPorts s ws

/-- 70_reset_and_hazards.md R291, 40_bit_signaling.md R137: the edge waits have no bound; as long as the line stays
high (or low) the block stays where it is, for any number of ticks, with the pin released.  The index of the point is
log entry 16. -/
def Obligations.EdgeWaitsHang : Prop :=
  ∀ (s : State) (n : Nat), s.pinMode = .release → 0 < n → s.QuietRst n →
    ((∀ d, d < n → s.env.periphLow (s.now + d) = false) →
      ∃ t : State, exec .sampleBit s = .next t ∧ t.ctl.point = .rxWaitLow (s.bitCnt - 1)
        ∧ Runs t (List.replicate n s.wires) { t with timer := 0, now := s.now + n }
        ∧ t = { s with timer := 1, ctl := t.ctl })
      ∧ ((∀ d, d < n → s.env.periphLow (s.now + d) = true) →
        ∃ t : State, exec .sampleBit s = .next t ∧ t.ctl.point = .rxWaitHigh (s.bitCnt - 1)
          ∧ Runs t (List.replicate n s.wires) { t with timer := 0, now := s.now + n }
          ∧ t = { s with timer := 1, ctl := t.ctl })

/-- 43_key_event_decoder.md R220, 70_reset_and_hazards.md R291 (c): the host is waited for as long as it is not ready,
and then the operation stands on the port for exactly one tick; the pin is not touched.  That `host_active` is set at
the tick of the hand-over is log entry 8. -/
def Obligations.HostOperationWaitsThenOneTick : Prop :=
  ∀ (s : State) (c : HostCall) (n : Nat), s.hostPort = none →
    (∀ d, d < n → s.env.hostReady (s.now + d) = false) → s.env.hostReady (s.now + n) = true →
    s.QuietRst (n + 1) →
    ∃ t : State, exec (.hostEmit c) s = .next t
      ∧ Runs t (List.replicate n s.wires ++ [{ s.wires with host := some c }])
          { s with
            timer := 0, hostActive := s.hostActive || decide (c = .activate), now := s.now + n + 1
            ctl := { s.ctl with point := .hostOp } }

/-- 43_key_event_decoder.md R220, 70_reset_and_hazards.md R291 (c): a host that is never ready stalls the block. -/
def Obligations.HostWaitHangs : Prop :=
  ∀ (s : State) (c : HostCall) (n : Nat), 0 < n → (∀ d, d < n → s.env.hostReady (s.now + d) = false) →
    s.QuietRst n →
    ∃ t : State, exec (.hostEmit c) s = .next t ∧ t.ctl.point = .hostWait
      ∧ Runs t (List.replicate n s.wires) { t with timer := 0, now := s.now + n }
      ∧ t = { s with timer := 1, ctl := t.ctl }

/-- 43_key_event_decoder.md R222: a hook's strobe is up for one tick and then back at 0. -/
def Obligations.HookStrobesOneTick : Prop :=
  ∀ (s : State) (h : HookEvent), s.hookPress = false → s.hookRelease = false → s.QuietRst 1 →
    ∃ t : State, exec (.hookEmit h) s = .next t
      ∧ Runs t [{ s.wires with
            hookPress := decide (h = .powerKeyPress), hookRelease := decide (h = .powerKeyRelease) }]
          { s with timer := 0, now := s.now + 1, ctl := { s.ctl with point := .hookOp } }

/-- The host operation of a plain key (43_key_event_decoder.md R215). -/
def keyCall (rel : Bit) (k : LogicalKey) : HostCall := if rel = 0#1 then .press k else .release k

/-- 43_key_event_decoder.md R210, R215, R223: a word with two plain keys gives their two host operations in order, one
tick each.  Under the setting of U20 of 93_implementation_defined.md a press of the case-lock key is one of them (log
entry 22).  That `km_scan` holds the scan code of slot 1 afterwards is log entry 30. -/
def Obligations.PlainWordGivesTwoOperations : Prop :=
  ∀ (s : State) (rel0 rel1 : Bit) (scan0 scan1 : BitVec 7) (k0 k1 : LogicalKey),
    s.cfg.keymapAt scan0 = some k0 → s.cfg.keymapAt scan1 = some k1 →
    (k0 ≠ s.cfg.keyCaps ∨ (s.cfg.capsTransition = .releaseOnly ∧ rel0 = 0#1)) →
    (k1 ≠ s.cfg.keyCaps ∨ (s.cfg.capsTransition = .releaseOnly ∧ rel1 = 0#1)) →
    (s.cfg.powerKeyDetect = .never ∨ (scan0 ≠ 0x7F#7 ∧ scan1 ≠ 0x7F#7)) → s.hostPort = none →
    s.env.hostReady s.now = true → s.env.hostReady (s.now + 1) = true → s.QuietRst 2 →
    ∃ t : State, exec (.decodeWord ((rel0 ++ scan0 : Byte) ++ (rel1 ++ scan1 : Byte))) s = .next t
      ∧ Runs t [{ s.wires with host := some (keyCall rel0 k0) }, { s.wires with host := some (keyCall rel1 k1) }]
          { s with
            timer := 0, kmScan := scan1, slotIdx := 1, now := s.now + 2
            ctl := { s.ctl with activity := .plSlot1, point := .hostOp } }

/-- The waveform of a toggle (43_key_event_decoder.md R216): one released tick of host operation, then the write frame
with the new indicator state. -/
def toggleWave (p : Params) (num caps scroll : Bool) : List Segment :=
  (PinMode.release, 1) :: writeWave p p.deviceAddr p.regLeds (p.indicatorWord num (!caps) scroll)

/-- The waveform of `n` toggles in a row, the first from `caps`. -/
def togglesWave (p : Params) (num scroll : Bool) : Nat → Bool → List Segment
  | 0, _ => []
  | n + 1, caps => toggleWave p num caps scroll ++ togglesWave p num scroll n (!caps)

/-- 43_key_event_decoder.md R217, R216, 44_indicator_driver.md R242: `N` transitions of a case-lock scan code give `N`
flips, `N` `writeAndAutoRelease(KEY_CAPS)` and `N` write frames with the state of the moment, whatever the release
flags.  Under `capsTransition = .any`, the setting of the numbered rules, no release flag is excluded; under the
setting of U20 of 93_implementation_defined.md the statement is about releases (log entry 22). -/
def Obligations.EveryCapsTransitionToggles : Prop :=
  ∀ (s : State) (es : List Byte) (ts : List Task),
    (∀ e ∈ es, s.cfg.keymapAt (eventScan e) = some s.cfg.keyCaps
      ∧ (s.cfg.capsTransition = .any ∨ eventRel e = 1#1)
      ∧ (s.cfg.powerKeyDetect = .never ∨ eventScan e ≠ 0x7F#7)) →
    s.ctl.rest = es.map (fun e => Task.op (.decodeSlot e)) ++ ts →
    s.timer = 0 → s.pinMode = .release → s.hostPort = none →
    s.HostTakes (waveTicks (togglesWave s.cfg s.indNum s.indScroll es.length s.indCaps)) →
    s.QuietRst (waveTicks (togglesWave s.cfg s.indNum s.indScroll es.length s.indCaps)) →
    ∃ (ws : List Wires) (u : State), Runs s ws u
      ∧ u.ctl.rest = ts ∧ u.indCaps = (s.indCaps ^^ decide (es.length % 2 = 1))
      ∧ u.indNum = s.indNum ∧ u.indScroll = s.indScroll ∧ u.outcome = s.outcome ∧ u.rxWord = s.rxWord
      ∧ u.hostActive = s.hostActive
      ∧ u.now = s.now + waveTicks (togglesWave s.cfg s.indNum s.indScroll es.length s.indCaps)
      ∧ ws.filterMap Wires.host = List.replicate es.length (.writeAndAutoRelease s.cfg.keyCaps)
      ∧ ws.map Wires.pin = expand (togglesWave s.cfg s.indNum s.indScroll es.length s.indCaps)

/-! ## The program run -/

/-- The waveform of one attempt of bring-up without answer (42_bring_up_and_poll.md R191). -/
def attemptWave (p : Params) : List Segment :=
  resetWave p ++ commandWave p p.deviceAddr p.cmdRead p.regBringup ++ [(.release, p.tRespTimeout * p.ticksPerUs)]

/-- The ticks of an attempt before its bounded wait. -/
def attemptLead (p : Params) : Nat :=
  waveTicks (resetWave p) + waveTicks (commandWave p p.deviceAddr p.cmdRead p.regBringup)

/-- 42_bring_up_and_poll.md R191, R193: an attempt without answer ends where it began, with another reset pulse, with
`outcome = timeout`, and nothing emitted but the pulse and the read frame.  The number of polls is log entry 7, and
that `bit_cnt` is 0 between fields is log entry 31. -/
def Obligations.SilentBringUpRetries : Prop :=
  ∀ s : State, Silent s.env (s.now + attemptLead s.cfg) (polls s) → s.QuietRst (waveTicks (attemptWave s.cfg)) →
    ∃ (t u : State) (ws : List Wires), exec .bringUp s = .next t ∧ Runs t ws u
      ∧ exec .bringUp { s with
          pinMode := .release, txCmd := cmdByte s.cfg.deviceAddr s.cfg.cmdRead s.cfg.regBringup, bitCnt := 0
          waitCnt := 0, outcome := .timeout, now := s.now + waveTicks (attemptWave s.cfg) } = .next u
      ∧ ws.map Wires.pin = expand (attemptWave s.cfg) ∧ QuietPorts s ws

/-- 42_bring_up_and_poll.md R200, R191, R192: a peripheral silent in `n` attempts and answering the next is found on
exactly that attempt: `n + 1` reset pulses and read frames, then one `activate`, and no operation or hook before it.
The number of polls is log entry 7. -/
def Obligations.BringUpSucceedsOnTheAnsweredAttempt : Prop :=
  ∀ (s : State) (n k : Nat) (w : BitVec 16),
    s.ctl.rest = [.op .main] → s.timer = 0 → s.hostActive = false → s.hostPort = none →
    Receives s.cfg → k < polls s →
    (∀ i, i < n → Silent s.env (s.now + i * waveTicks (attemptWave s.cfg) + attemptLead s.cfg) (polls s)) →
    Responds s.cfg s.env w (s.now + n * waveTicks (attemptWave s.cfg) + attemptLead s.cfg)
      (polls s + responseTicks s.cfg w) (s.now + n * waveTicks (attemptWave s.cfg) + attemptLead s.cfg + k) →
    s.HostTakes (n * waveTicks (attemptWave s.cfg) + attemptLead s.cfg + polls s + responseTicks s.cfg w) →
    s.QuietRst (n * waveTicks (attemptWave s.cfg) + attemptLead s.cfg + polls s + responseTicks s.cfg w + 1) →
    ∃ (ws : List Wires) (u : State) (m : Nat), Runs s (ws ++ [{ s.wires with pin := .release, host := some .activate }]) u
      ∧ (∀ x ∈ ws, x.host = none ∧ x.hookPress = s.hookPress ∧ x.hookRelease = s.hookRelease)
      ∧ ws.map Wires.pin = expand ((List.replicate n (attemptWave s.cfg)).flatten ++ resetWave s.cfg
          ++ commandWave s.cfg s.cfg.deviceAddr s.cfg.cmdRead s.cfg.regBringup ++ [(.release, m)])
      ∧ u.hostActive = true ∧ u.outcome = .response ∧ u.rxWord = some w ∧ u.ctl.rest = [.op .pollLoop]
      ∧ u.hostPort = none ∧ u.hookPress = s.hookPress ∧ u.hookRelease = s.hookRelease
      ∧ u.indNum = s.indNum ∧ u.indCaps = s.indCaps ∧ u.indScroll = s.indScroll

/-- The waveform of a poll without answer (42_bring_up_and_poll.md R196). -/
def pollWave (p : Params) : List Segment :=
  commandWave p p.deviceAddr p.cmdRead p.regKeys
    ++ [(.release, p.tRespTimeout * p.ticksPerUs), (.release, p.tPollIdle * p.ticksPerUs)]

/-- 42_bring_up_and_poll.md R196, R197, R198: a poll without answer decodes nothing, emits nothing, keeps the
indicators, waits the idle delay and polls again.  The number of polls is log entry 7, and that `bit_cnt` is 0 between
fields is log entry 31. -/
def Obligations.SilentPollSkipsDecoding : Prop :=
  ∀ s : State, Silent s.env (waitFrom s s.cfg.deviceAddr s.cfg.regKeys) (polls s) →
    s.QuietRst (waveTicks (pollWave s.cfg)) →
    ∃ (t u : State) (ws : List Wires), exec .pollLoop s = .next t ∧ Runs t ws u
      ∧ exec .pollLoop { s with
          pinMode := .release, txCmd := cmdByte s.cfg.deviceAddr s.cfg.cmdRead s.cfg.regKeys, bitCnt := 0
          waitCnt := 0, outcome := .timeout, now := s.now + waveTicks (pollWave s.cfg) } = .next u
      ∧ ws.map Wires.pin = expand (pollWave s.cfg) ∧ QuietPorts s ws

/-- 42_bring_up_and_poll.md R199, R196: a poll with an answer hands the received word to the decoder, slot 0 first, with
the idle delay after slot 1. -/
def Obligations.AnsweredPollDecodesTheWord : Prop :=
  ∀ (s : State) (w : BitVec 16) (ts : List Task), s.rst = false → s.timer = 0 → s.ctl.rest = .seq .plCheck :: ts →
    s.outcome = .response → s.rxWord = some w →
    ∃ t : State, exec (.decodeWord w) { s with ctl := { s.ctl with rest := .seq .plIdle :: ts } } = .next t
      ∧ step s = .next t

/-- 42_bring_up_and_poll.md R192, R199: after a read of bring-up that returned `response` the host is activated in one
tick and the program goes on behind it.  The tick at which `host_active` is set is log entry 8. -/
def Obligations.ResponseActivatesHost : Prop :=
  ∀ (s : State) (ts : List Task), s.timer = 0 → s.ctl.rest = .seq .buCheck :: ts → s.outcome = .response →
    s.hostPort = none → s.env.hostReady s.now = true → s.QuietRst 1 →
    Runs s [{ s.wires with host := some .activate }]
      { s with
        hostActive := true, now := s.now + 1
        ctl := { activity := .buActivate, point := .hostOp, rest := ts } }

/-! ## Rules of the whole machine -/

/-- The reset state meets every invariant below. -/
def Obligations.ResetMeetsTheInvariants : Prop :=
  State.reset.Endless ∧ State.reset.PinDiscipline ∧ State.reset.Phases ∧ State.reset.RxHeld
    ∧ State.reset.CountersBounded ∧ State.reset.LocksUnlit

/-- 42_bring_up_and_poll.md R190, 10_state.md R31: every step keeps a program that never ends. -/
def Obligations.ProgramStaysEndless : Prop :=
  ∀ s t : State, s.Endless → step s = .next t → t.Endless

/-- 10_state.md R30, R21, 40_bit_signaling.md R139: every step keeps the pin in the mode of the control point, and a low
phase is always followed by a release. -/
def Obligations.PinFollowsControlPoint : Prop :=
  ∀ s t : State, s.PinDiscipline → step s = .next t → t.PinDiscipline

/-- 40_bit_signaling.md R139, R133, 70_reset_and_hazards.md R294: a step whose head is not one of the listening statements,
or that passes a tick, is the same under every other `periph_low`; and where the block's own program runs a listening
statement the pin is released, so that the level it reads is the peripheral's. -/
def Obligations.SenseOnlyWhileReleased : Prop :=
  (∀ (s : State) (e : Env), e.rst = s.env.rst → e.hostReady s.now = s.env.hostReady s.now →
      (s.isTick = true ∨ ∀ q ts, s.ctl.rest = q :: ts → listens q = false) →
      (∀ t : State, step s = .next t → step { s with env := e } = .next { t with env := e })
        ∧ ∀ r, step s = .refused r → step { s with env := e } = .refused r)
    ∧ ∀ (s t : State) (q : Task) (ts : List Task), s.PinDiscipline → s.isTick = false → s.ctl.rest = q :: ts →
      listens q = true → step s = .next t →
      s.pinMode = .release ∧ (s.line = 0#1 ↔ s.env.periphLow s.now = true)

/-- 60_exceptions.md R260, 42_bring_up_and_poll.md R192, R193, 10_state.md R31: every step keeps the two phases of
life.  That `host_active` is set at the tick of the hand-over is log entry 8. -/
def Obligations.PhasesOfLifeKept : Prop :=
  ∀ s t : State, s.Phases → step s = .next t → t.Phases

/-- 43_key_event_decoder.md R221: at every tick with `host_valid = 1` and `host_op ≠ activate`, `host_active = 1`; and
no hook strobes before activation.  It holds wherever the invariant of the phases does.  For `activate` itself it
holds because `host_active` is set at the tick of the hand-over (10_state.md R24, 42_bring_up_and_poll.md R192, log
entry 8). -/
def Obligations.NoKeyBeforeActivation : Prop :=
  ∀ (s t : State) (c : HostCall), s.Phases → step s = .next t →
    (t.hostPort = some c → t.hostActive = true) ∧ (t.hookPress = true ∨ t.hookRelease = true → t.hostActive = true)

/-- 42_bring_up_and_poll.md R192, 10_state.md R24, R31: after activation no step without `rst` activates again, clears
`host_active` or returns to bring-up. -/
def Obligations.ActivationHappensOnce : Prop :=
  ∀ s t : State, s.Phases → s.hostActive = true → s.rst = false → step s = .next t →
    t.hostActive = true ∧ (t.hostPort = some .activate → s.hostPort = some .activate)
      ∧ t.ctl.activity ≠ .buReset ∧ t.ctl.activity ≠ .buRead

/-- 10_state.md R27: every step keeps a received word wherever something will read it. -/
def Obligations.ReceivedWordHeld : Prop :=
  ∀ s t : State, s.RxHeld → step s = .next t → t.RxHeld

/-- 42_bring_up_and_poll.md R190, 60_exceptions.md R254: the block never stops: in its own program every step answers a
next state, which again meets what the step needs. -/
def Obligations.BlockNeverStops : Prop :=
  ∀ s : State, s.Endless → s.PinDiscipline → s.RxHeld →
    ∃ t : State, step s = .next t ∧ t.Endless ∧ t.PinDiscipline ∧ t.RxHeld

/-- 10_state.md R26: every step keeps the bounds of `bit_cnt` and `wait_cnt`.  The bound of `wait_cnt` in ticks is log
entry 7. -/
def Obligations.CountersStayBounded : Prop :=
  ∀ s t : State, s.CountersBounded → step s = .next t → t.CountersBounded

/-- The event byte that an operation decodes when it is issued (43_key_event_decoder.md R210, R212, log entry 9). -/
def decodedByOp : Instr → Option Byte
  | .decodeSlot e => some e
  | .decodeWord w => some (slot0 w)
  | .keyWord e _ => some e
  | .evPress scan => some (0#1 ++ scan)
  | .evRelease scan => some (1#1 ++ scan)
  | .evSentinel rel => some (rel ++ 0x7F#7)
  | .evCaps rel => some (rel ++ 0x39#7)
  | .evUnmapped rel scan => some (rel ++ scan)
  | _ => none

/-- The event byte that a statement decodes when it runs in a state: the second slot of a word, and the first slot at
the end of an answered poll (42_bring_up_and_poll.md R196). -/
def decodedBySeq (s : State) : SeqTask → Option Byte
  | .decodeSecond e => some e
  | .plCheck => if s.outcome = .response then s.rxWord.map slot0 else none
  | _ => none

/-- The event byte that a task decodes when it runs in a state. -/
def decodedByte (s : State) : Task → Option Byte
  | .op i => decodedByOp i
  | .seq q => decodedBySeq s q

/-- 10_state.md R23, 43_key_event_decoder.md R219: nothing but a block reset writes `ind_num` or `ind_scroll`, and a
step that changes `ind_caps` flips it while it decodes an event byte whose scan code maps to `KEY_CAPS`.  Which
release flags toggle is log entry 22.  That an event row of the table decodes its byte is log entry 9. -/
def Obligations.IndicatorWriters : Prop :=
  (∀ s t : State, s.LocksUnlit → step s = .next t → t.LocksUnlit)
    ∧ ∀ s t : State, step s = .next t → s.rst = false →
      t.indNum = s.indNum ∧ t.indScroll = s.indScroll
        ∧ (t.indCaps ≠ s.indCaps → t.indCaps = !s.indCaps ∧ ∃ (q : Task) (ts : List Task) (e : Byte),
          s.timer = 0 ∧ s.ctl.rest = q :: ts ∧ decodedByte s q = some e
            ∧ s.cfg.keymapAt (eventScan e) = some s.cfg.keyCaps
            ∧ (s.cfg.capsTransition = .any ∨ eventRel e = 1#1))

/-- 10_state.md R26, R27, R28, 41_command_protocol.md R171: only the read engine writes `outcome`, `rx_word` and
`wait_cnt`, at the statements that poll or receive; no operation does when it is issued. -/
def Obligations.ReadEngineOwnsItsResults : Prop :=
  (∀ (i : Instr) (s t : State), exec i s = .next t →
      t.outcome = s.outcome ∧ t.rxWord = s.rxWord ∧ t.waitCnt = s.waitCnt)
    ∧ ∀ s t : State, step s = .next t → s.rst = false →
      (t.outcome ≠ s.outcome → s.timer = 0 ∧ ∃ q ts, s.ctl.rest = q :: ts
          ∧ ((t.outcome = .timeout ∧ (q = .seq .waitBegin ∨ q = .seq .waitNext))
            ∨ (t.outcome = .response ∧ (q = .seq .rxBit ∨ q = .seq .rxShift))))
        ∧ (t.rxWord ≠ s.rxWord → s.timer = 0 ∧ ∃ q ts, s.ctl.rest = q :: ts
          ∧ (q = .seq .waitBegin ∨ q = .seq .waitNext ∨ q = .seq .rxShift))
        ∧ (t.waitCnt ≠ s.waitCnt → s.timer = 0 ∧ ∃ q ts, s.ctl.rest = q :: ts
          ∧ (q = .seq .waitBegin ∨ q = .seq .waitNext))

/-- 10_state.md R34, 00_scope.md R15, 20_memory.md R77: no step changes the configuration record or the inputs, and time
passes by one exactly in the ticks. -/
def Obligations.ConfigurationAndTime : Prop :=
  ∀ s t : State, step s = .next t →
    t.cfg = s.cfg ∧ t.env = s.env ∧ t.now = if s.isTick then s.now + 1 else s.now

/-- 10_state.md R22, 70_reset_and_hazards.md R293: the line is low exactly when the controller or the peripheral pulls it
low; both at once is no fault, and `sense` (40_bit_signaling.md R133) answers that level, in the model's result register
(log entries 15, 21), and changes nothing else. -/
def Obligations.LineIsWiredAnd : Prop :=
  ∀ s : State,
    (s.line = 0#1 ↔ s.pinMode = .driveLow ∨ s.env.periphLow s.now = true)
      ∧ (s.lineDriveLow = true ↔ s.pinMode = .driveLow)
      ∧ exec .sense s = .next { s with
          retBit := if s.pinMode = .driveLow ∨ s.env.periphLow s.now = true then 0#1 else 1#1 }
end

