-- ==== Sys2Proof/Laws/State.lean ====
section
/-! SUPPORT. One lemma per field for each primitive update of the state, all by `rfl`: no later proof unfolds a record
update. -/

namespace Sys2Proof.Machine

@[simp] theorem State.setPin_pinMode (m : PinMode) (s : State) : (s.setPin m).pinMode = m := rfl
@[simp] theorem State.setPin_indNum (m : PinMode) (s : State) : (s.setPin m).indNum = s.indNum := rfl
@[simp] theorem State.setPin_indCaps (m : PinMode) (s : State) : (s.setPin m).indCaps = s.indCaps := rfl
@[simp] theorem State.setPin_indScroll (m : PinMode) (s : State) : (s.setPin m).indScroll = s.indScroll := rfl
@[simp] theorem State.setPin_hostActive (m : PinMode) (s : State) : (s.setPin m).hostActive = s.hostActive := rfl
@[simp] theorem State.setPin_timer (m : PinMode) (s : State) : (s.setPin m).timer = s.timer := rfl
@[simp] theorem State.setPin_waitCnt (m : PinMode) (s : State) : (s.setPin m).waitCnt = s.waitCnt := rfl
@[simp] theorem State.setPin_bitCnt (m : PinMode) (s : State) : (s.setPin m).bitCnt = s.bitCnt := rfl
@[simp] theorem State.setPin_txCmd (m : PinMode) (s : State) : (s.setPin m).txCmd = s.txCmd := rfl
@[simp] theorem State.setPin_txData (m : PinMode) (s : State) : (s.setPin m).txData = s.txData := rfl
@[simp] theorem State.setPin_rxWord (m : PinMode) (s : State) : (s.setPin m).rxWord = s.rxWord := rfl
@[simp] theorem State.setPin_outcome (m : PinMode) (s : State) : (s.setPin m).outcome = s.outcome := rfl
@[simp] theorem State.setPin_slotIdx (m : PinMode) (s : State) : (s.setPin m).slotIdx = s.slotIdx := rfl
@[simp] theorem State.setPin_hostPort (m : PinMode) (s : State) : (s.setPin m).hostPort = s.hostPort := rfl
@[simp] theorem State.setPin_hookPress (m : PinMode) (s : State) : (s.setPin m).hookPress = s.hookPress := rfl
@[simp] theorem State.setPin_hookRelease (m : PinMode) (s : State) : (s.setPin m).hookRelease = s.hookRelease := rfl
@[simp] theorem State.setPin_kmScan (m : PinMode) (s : State) : (s.setPin m).kmScan = s.kmScan := rfl
@[simp] theorem State.setPin_retBit (m : PinMode) (s : State) : (s.setPin m).retBit = s.retBit := rfl
@[simp] theorem State.setPin_retWord (m : PinMode) (s : State) : (s.setPin m).retWord = s.retWord := rfl
@[simp] theorem State.setPin_now (m : PinMode) (s : State) : (s.setPin m).now = s.now := rfl
@[simp] theorem State.setPin_env (m : PinMode) (s : State) : (s.setPin m).env = s.env := rfl
@[simp] theorem State.setPin_cfg (m : PinMode) (s : State) : (s.setPin m).cfg = s.cfg := rfl
@[simp] theorem State.setPin_ctl_activity (m : PinMode) (s : State) : (s.setPin m).ctl.activity = s.ctl.activity := rfl
@[simp] theorem State.setPin_ctl_point (m : PinMode) (s : State) : (s.setPin m).ctl.point = s.ctl.point := rfl
@[simp] theorem State.setPin_ctl_rest (m : PinMode) (s : State) : (s.setPin m).ctl.rest = s.ctl.rest := rfl

@[simp] theorem State.hold_pinMode (p : Point) (n : Nat) (s : State) : (s.hold p n).pinMode = s.pinMode := rfl
@[simp] theorem State.hold_indNum (p : Point) (n : Nat) (s : State) : (s.hold p n).indNum = s.indNum := rfl
@[simp] theorem State.hold_indCaps (p : Point) (n : Nat) (s : State) : (s.hold p n).indCaps = s.indCaps := rfl
@[simp] theorem State.hold_indScroll (p : Point) (n : Nat) (s : State) : (s.hold p n).indScroll = s.indScroll := rfl
@[simp] theorem State.hold_hostActive (p : Point) (n : Nat) (s : State) : (s.hold p n).hostActive = s.hostActive := rfl
@[simp] theorem State.hold_timer (p : Point) (n : Nat) (s : State) : (s.hold p n).timer = n := rfl
@[simp] theorem State.hold_waitCnt (p : Point) (n : Nat) (s : State) : (s.hold p n).waitCnt = s.waitCnt := rfl
@[simp] theorem State.hold_bitCnt (p : Point) (n : Nat) (s : State) : (s.hold p n).bitCnt = s.bitCnt := rfl
@[simp] theorem State.hold_txCmd (p : Point) (n : Nat) (s : State) : (s.hold p n).txCmd = s.txCmd := rfl
@[simp] theorem State.hold_txData (p : Point) (n : Nat) (s : State) : (s.hold p n).txData = s.txData := rfl
@[simp] theorem State.hold_rxWord (p : Point) (n : Nat) (s : State) : (s.hold p n).rxWord = s.rxWord := rfl
@[simp] theorem State.hold_outcome (p : Point) (n : Nat) (s : State) : (s.hold p n).outcome = s.outcome := rfl
@[simp] theorem State.hold_slotIdx (p : Point) (n : Nat) (s : State) : (s.hold p n).slotIdx = s.slotIdx := rfl
@[simp] theorem State.hold_hostPort (p : Point) (n : Nat) (s : State) : (s.hold p n).hostPort = s.hostPort := rfl
@[simp] theorem State.hold_hookPress (p : Point) (n : Nat) (s : State) : (s.hold p n).hookPress = s.hookPress := rfl
@[simp] theorem State.hold_hookRelease (p : Point) (n : Nat) (s : State) : (s.hold p n).hookRelease = s.hookRelease := rfl
@[simp] theorem State.hold_kmScan (p : Point) (n : Nat) (s : State) : (s.hold p n).kmScan = s.kmScan := rfl
@[simp] theorem State.hold_retBit (p : Point) (n : Nat) (s : State) : (s.hold p n).retBit = s.retBit := rfl
@[simp] theorem State.hold_retWord (p : Point) (n : Nat) (s : State) : (s.hold p n).retWord = s.retWord := rfl
@[simp] theorem State.hold_now (p : Point) (n : Nat) (s : State) : (s.hold p n).now = s.now := rfl
@[simp] theorem State.hold_env (p : Point) (n : Nat) (s : State) : (s.hold p n).env = s.env := rfl
@[simp] theorem State.hold_cfg (p : Point) (n : Nat) (s : State) : (s.hold p n).cfg = s.cfg := rfl
@[simp] theorem State.hold_ctl_activity (p : Point) (n : Nat) (s : State) : (s.hold p n).ctl.activity = s.ctl.activity := rfl
@[simp] theorem State.hold_ctl_point (p : Point) (n : Nat) (s : State) : (s.hold p n).ctl.point = p := rfl
@[simp] theorem State.hold_ctl_rest (p : Point) (n : Nat) (s : State) : (s.hold p n).ctl.rest = s.ctl.rest := rfl

@[simp] theorem State.push_pinMode (ts : List Task) (s : State) : (s.push ts).pinMode = s.pinMode := rfl
@[simp] theorem State.push_indNum (ts : List Task) (s : State) : (s.push ts).indNum = s.indNum := rfl
@[simp] theorem State.push_indCaps (ts : List Task) (s : State) : (s.push ts).indCaps = s.indCaps := rfl
@[simp] theorem State.push_indScroll (ts : List Task) (s : State) : (s.push ts).indScroll = s.indScroll := rfl
@[simp] theorem State.push_hostActive (ts : List Task) (s : State) : (s.push ts).hostActive = s.hostActive := rfl
@[simp] theorem State.push_timer (ts : List Task) (s : State) : (s.push ts).timer = s.timer := rfl
@[simp] theorem State.push_waitCnt (ts : List Task) (s : State) : (s.push ts).waitCnt = s.waitCnt := rfl
@[simp] theorem State.push_bitCnt (ts : List Task) (s : State) : (s.push ts).bitCnt = s.bitCnt := rfl
@[simp] theorem State.push_txCmd (ts : List Task) (s : State) : (s.push ts).txCmd = s.txCmd := rfl
@[simp] theorem State.push_txData (ts : List Task) (s : State) : (s.push ts).txData = s.txData := rfl
@[simp] theorem State.push_rxWord (ts : List Task) (s : State) : (s.push ts).rxWord = s.rxWord := rfl
@[simp] theorem State.push_outcome (ts : List Task) (s : State) : (s.push ts).outcome = s.outcome := rfl
@[simp] theorem State.push_slotIdx (ts : List Task) (s : State) : (s.push ts).slotIdx = s.slotIdx := rfl
@[simp] theorem State.push_hostPort (ts : List Task) (s : State) : (s.push ts).hostPort = s.hostPort := rfl
@[simp] theorem State.push_hookPress (ts : List Task) (s : State) : (s.push ts).hookPress = s.hookPress := rfl
@[simp] theorem State.push_hookRelease (ts : List Task) (s : State) : (s.push ts).hookRelease = s.hookRelease := rfl
@[simp] theorem State.push_kmScan (ts : List Task) (s : State) : (s.push ts).kmScan = s.kmScan := rfl
@[simp] theorem State.push_retBit (ts : List Task) (s : State) : (s.push ts).retBit = s.retBit := rfl
@[simp] theorem State.push_retWord (ts : List Task) (s : State) : (s.push ts).retWord = s.retWord := rfl
@[simp] theorem State.push_now (ts : List Task) (s : State) : (s.push ts).now = s.now := rfl
@[simp] theorem State.push_env (ts : List Task) (s : State) : (s.push ts).env = s.env := rfl
@[simp] theorem State.push_cfg (ts : List Task) (s : State) : (s.push ts).cfg = s.cfg := rfl
@[simp] theorem State.push_ctl_activity (ts : List Task) (s : State) : (s.push ts).ctl.activity = s.ctl.activity := rfl
@[simp] theorem State.push_ctl_point (ts : List Task) (s : State) : (s.push ts).ctl.point = s.ctl.point := rfl
@[simp] theorem State.push_ctl_rest (ts : List Task) (s : State) : (s.push ts).ctl.rest = ts ++ s.ctl.rest := rfl

@[simp] theorem State.enter_pinMode (a : Activity) (s : State) : (s.enter a).pinMode = s.pinMode := rfl
@[simp] theorem State.enter_indNum (a : Activity) (s : State) : (s.enter a).indNum = s.indNum := rfl
@[simp] theorem State.enter_indCaps (a : Activity) (s : State) : (s.enter a).indCaps = s.indCaps := rfl
@[simp] theorem State.enter_indScroll (a : Activity) (s : State) : (s.enter a).indScroll = s.indScroll := rfl
@[simp] theorem State.enter_hostActive (a : Activity) (s : State) : (s.enter a).hostActive = s.hostActive := rfl
@[simp] theorem State.enter_timer (a : Activity) (s : State) : (s.enter a).timer = s.timer := rfl
@[simp] theorem State.enter_waitCnt (a : Activity) (s : State) : (s.enter a).waitCnt = s.waitCnt := rfl
@[simp] theorem State.enter_bitCnt (a : Activity) (s : State) : (s.enter a).bitCnt = s.bitCnt := rfl
@[simp] theorem State.enter_txCmd (a : Activity) (s : State) : (s.enter a).txCmd = s.txCmd := rfl
@[simp] theorem State.enter_txData (a : Activity) (s : State) : (s.enter a).txData = s.txData := rfl
@[simp] theorem State.enter_rxWord (a : Activity) (s : State) : (s.enter a).rxWord = s.rxWord := rfl
@[simp] theorem State.enter_outcome (a : Activity) (s : State) : (s.enter a).outcome = s.outcome := rfl
@[simp] theorem State.enter_slotIdx (a : Activity) (s : State) : (s.enter a).slotIdx = s.slotIdx := rfl
@[simp] theorem State.enter_hostPort (a : Activity) (s : State) : (s.enter a).hostPort = s.hostPort := rfl
@[simp] theorem State.enter_hookPress (a : Activity) (s : State) : (s.enter a).hookPress = s.hookPress := rfl
@[simp] theorem State.enter_hookRelease (a : Activity) (s : State) : (s.enter a).hookRelease = s.hookRelease := rfl
@[simp] theorem State.enter_kmScan (a : Activity) (s : State) : (s.enter a).kmScan = s.kmScan := rfl
@[simp] theorem State.enter_retBit (a : Activity) (s : State) : (s.enter a).retBit = s.retBit := rfl
@[simp] theorem State.enter_retWord (a : Activity) (s : State) : (s.enter a).retWord = s.retWord := rfl
@[simp] theorem State.enter_now (a : Activity) (s : State) : (s.enter a).now = s.now := rfl
@[simp] theorem State.enter_env (a : Activity) (s : State) : (s.enter a).env = s.env := rfl
@[simp] theorem State.enter_cfg (a : Activity) (s : State) : (s.enter a).cfg = s.cfg := rfl
@[simp] theorem State.enter_ctl_activity (a : Activity) (s : State) : (s.enter a).ctl.activity = a := rfl
@[simp] theorem State.enter_ctl_point (a : Activity) (s : State) : (s.enter a).ctl.point = s.ctl.point := rfl
@[simp] theorem State.enter_ctl_rest (a : Activity) (s : State) : (s.enter a).ctl.rest = s.ctl.rest := rfl

@[simp] theorem State.withRest_pinMode (ts : List Task) (s : State) : (s.withRest ts).pinMode = s.pinMode := rfl
@[simp] theorem State.withRest_indNum (ts : List Task) (s : State) : (s.withRest ts).indNum = s.indNum := rfl
@[simp] theorem State.withRest_indCaps (ts : List Task) (s : State) : (s.withRest ts).indCaps = s.indCaps := rfl
@[simp] theorem State.withRest_indScroll (ts : List Task) (s : State) : (s.withRest ts).indScroll = s.indScroll := rfl
@[simp] theorem State.withRest_hostActive (ts : List Task) (s : State) : (s.withRest ts).hostActive = s.hostActive := rfl
@[simp] theorem State.withRest_timer (ts : List Task) (s : State) : (s.withRest ts).timer = s.timer := rfl
@[simp] theorem State.withRest_waitCnt (ts : List Task) (s : State) : (s.withRest ts).waitCnt = s.waitCnt := rfl
@[simp] theorem State.withRest_bitCnt (ts : List Task) (s : State) : (s.withRest ts).bitCnt = s.bitCnt := rfl
@[simp] theorem State.withRest_txCmd (ts : List Task) (s : State) : (s.withRest ts).txCmd = s.txCmd := rfl
@[simp] theorem State.withRest_txData (ts : List Task) (s : State) : (s.withRest ts).txData = s.txData := rfl
@[simp] theorem State.withRest_rxWord (ts : List Task) (s : State) : (s.withRest ts).rxWord = s.rxWord := rfl
@[simp] theorem State.withRest_outcome (ts : List Task) (s : State) : (s.withRest ts).outcome = s.outcome := rfl
@[simp] theorem State.withRest_slotIdx (ts : List Task) (s : State) : (s.withRest ts).slotIdx = s.slotIdx := rfl
@[simp] theorem State.withRest_hostPort (ts : List Task) (s : State) : (s.withRest ts).hostPort = s.hostPort := rfl
@[simp] theorem State.withRest_hookPress (ts : List Task) (s : State) : (s.withRest ts).hookPress = s.hookPress := rfl
@[simp] theorem State.withRest_hookRelease (ts : List Task) (s : State) : (s.withRest ts).hookRelease = s.hookRelease := rfl
@[simp] theorem State.withRest_kmScan (ts : List Task) (s : State) : (s.withRest ts).kmScan = s.kmScan := rfl
@[simp] theorem State.withRest_retBit (ts : List Task) (s : State) : (s.withRest ts).retBit = s.retBit := rfl
@[simp] theorem State.withRest_retWord (ts : List Task) (s : State) : (s.withRest ts).retWord = s.retWord := rfl
@[simp] theorem State.withRest_now (ts : List Task) (s : State) : (s.withRest ts).now = s.now := rfl
@[simp] theorem State.withRest_env (ts : List Task) (s : State) : (s.withRest ts).env = s.env := rfl
@[simp] theorem State.withRest_cfg (ts : List Task) (s : State) : (s.withRest ts).cfg = s.cfg := rfl
@[simp] theorem State.withRest_ctl_activity (ts : List Task) (s : State) : (s.withRest ts).ctl.activity = s.ctl.activity := rfl
@[simp] theorem State.withRest_ctl_point (ts : List Task) (s : State) : (s.withRest ts).ctl.point = s.ctl.point := rfl
@[simp] theorem State.withRest_ctl_rest (ts : List Task) (s : State) : (s.withRest ts).ctl.rest = ts := rfl

@[simp] theorem State.tick_pinMode (s : State) : (s.tick).pinMode = s.pinMode := rfl
@[simp] theorem State.tick_indNum (s : State) : (s.tick).indNum = s.indNum := rfl
@[simp] theorem State.tick_indCaps (s : State) : (s.tick).indCaps = s.indCaps := rfl
@[simp] theorem State.tick_indScroll (s : State) : (s.tick).indScroll = s.indScroll := rfl
@[simp] theorem State.tick_hostActive (s : State) : (s.tick).hostActive = s.hostActive := rfl
@[simp] theorem State.tick_timer (s : State) : (s.tick).timer = s.timer - 1 := rfl
@[simp] theorem State.tick_waitCnt (s : State) : (s.tick).waitCnt = s.waitCnt := rfl
@[simp] theorem State.tick_bitCnt (s : State) : (s.tick).bitCnt = s.bitCnt := rfl
@[simp] theorem State.tick_txCmd (s : State) : (s.tick).txCmd = s.txCmd := rfl
@[simp] theorem State.tick_txData (s : State) : (s.tick).txData = s.txData := rfl
@[simp] theorem State.tick_rxWord (s : State) : (s.tick).rxWord = s.rxWord := rfl
@[simp] theorem State.tick_outcome (s : State) : (s.tick).outcome = s.outcome := rfl
@[simp] theorem State.tick_slotIdx (s : State) : (s.tick).slotIdx = s.slotIdx := rfl
@[simp] theorem State.tick_hostPort (s : State) : (s.tick).hostPort = s.hostPort := rfl
@[simp] theorem State.tick_hookPress (s : State) : (s.tick).hookPress = s.hookPress := rfl
@[simp] theorem State.tick_hookRelease (s : State) : (s.tick).hookRelease = s.hookRelease := rfl
@[simp] theorem State.tick_kmScan (s : State) : (s.tick).kmScan = s.kmScan := rfl
@[simp] theorem State.tick_retBit (s : State) : (s.tick).retBit = s.retBit := rfl
@[simp] theorem State.tick_retWord (s : State) : (s.tick).retWord = s.retWord := rfl
@[simp] theorem State.tick_now (s : State) : (s.tick).now = s.now + 1 := rfl
@[simp] theorem State.tick_env (s : State) : (s.tick).env = s.env := rfl
@[simp] theorem State.tick_cfg (s : State) : (s.tick).cfg = s.cfg := rfl
@[simp] theorem State.tick_ctl_activity (s : State) : (s.tick).ctl.activity = s.ctl.activity := rfl
@[simp] theorem State.tick_ctl_point (s : State) : (s.tick).ctl.point = s.ctl.point := rfl
@[simp] theorem State.tick_ctl_rest (s : State) : (s.tick).ctl.rest = s.ctl.rest := rfl

@[simp] theorem State.blockReset_pinMode (s : State) : (s.blockReset).pinMode = State.reset.pinMode := rfl
@[simp] theorem State.blockReset_indNum (s : State) : (s.blockReset).indNum = State.reset.indNum := rfl
@[simp] theorem State.blockReset_indCaps (s : State) : (s.blockReset).indCaps = State.reset.indCaps := rfl
@[simp] theorem State.blockReset_indScroll (s : State) : (s.blockReset).indScroll = State.reset.indScroll := rfl
@[simp] theorem State.blockReset_hostActive (s : State) : (s.blockReset).hostActive = State.reset.hostActive := rfl
@[simp] theorem State.blockReset_timer (s : State) : (s.blockReset).timer = State.reset.timer := rfl
@[simp] theorem State.blockReset_waitCnt (s : State) : (s.blockReset).waitCnt = State.reset.waitCnt := rfl
@[simp] theorem State.blockReset_bitCnt (s : State) : (s.blockReset).bitCnt = State.reset.bitCnt := rfl
@[simp] theorem State.blockReset_txCmd (s : State) : (s.blockReset).txCmd = State.reset.txCmd := rfl
@[simp] theorem State.blockReset_txData (s : State) : (s.blockReset).txData = State.reset.txData := rfl
@[simp] theorem State.blockReset_rxWord (s : State) : (s.blockReset).rxWord = State.reset.rxWord := rfl
@[simp] theorem State.blockReset_outcome (s : State) : (s.blockReset).outcome = State.reset.outcome := rfl
@[simp] theorem State.blockReset_slotIdx (s : State) : (s.blockReset).slotIdx = State.reset.slotIdx := rfl
@[simp] theorem State.blockReset_hostPort (s : State) : (s.blockReset).hostPort = State.reset.hostPort := rfl
@[simp] theorem State.blockReset_hookPress (s : State) : (s.blockReset).hookPress = State.reset.hookPress := rfl
@[simp] theorem State.blockReset_hookRelease (s : State) : (s.blockReset).hookRelease = State.reset.hookRelease := rfl
@[simp] theorem State.blockReset_kmScan (s : State) : (s.blockReset).kmScan = State.reset.kmScan := rfl
@[simp] theorem State.blockReset_retBit (s : State) : (s.blockReset).retBit = State.reset.retBit := rfl
@[simp] theorem State.blockReset_retWord (s : State) : (s.blockReset).retWord = State.reset.retWord := rfl
@[simp] theorem State.blockReset_now (s : State) : (s.blockReset).now = s.now + 1 := rfl
@[simp] theorem State.blockReset_env (s : State) : (s.blockReset).env = s.env := rfl
@[simp] theorem State.blockReset_cfg (s : State) : (s.blockReset).cfg = s.cfg := rfl
@[simp] theorem State.blockReset_ctl_activity (s : State) : (s.blockReset).ctl.activity = State.reset.ctl.activity := rfl
@[simp] theorem State.blockReset_ctl_point (s : State) : (s.blockReset).ctl.point = State.reset.ctl.point := rfl
@[simp] theorem State.blockReset_ctl_rest (s : State) : (s.blockReset).ctl.rest = State.reset.ctl.rest := rfl

@[simp] theorem State.raiseHost_pinMode (c : HostCall) (s : State) : (s.raiseHost c).pinMode = s.pinMode := rfl
@[simp] theorem State.raiseHost_indNum (c : HostCall) (s : State) : (s.raiseHost c).indNum = s.indNum := rfl
@[simp] theorem State.raiseHost_indCaps (c : HostCall) (s : State) : (s.raiseHost c).indCaps = s.indCaps := rfl
@[simp] theorem State.raiseHost_indScroll (c : HostCall) (s : State) : (s.raiseHost c).indScroll = s.indScroll := rfl
@[simp] theorem State.raiseHost_hostActive (c : HostCall) (s : State) : (s.raiseHost c).hostActive = (s.hostActive || decide (c = .activate)) := rfl
@[simp] theorem State.raiseHost_timer (c : HostCall) (s : State) : (s.raiseHost c).timer = s.timer := rfl
@[simp] theorem State.raiseHost_waitCnt (c : HostCall) (s : State) : (s.raiseHost c).waitCnt = s.waitCnt := rfl
@[simp] theorem State.raiseHost_bitCnt (c : HostCall) (s : State) : (s.raiseHost c).bitCnt = s.bitCnt := rfl
@[simp] theorem State.raiseHost_txCmd (c : HostCall) (s : State) : (s.raiseHost c).txCmd = s.txCmd := rfl
@[simp] theorem State.raiseHost_txData (c : HostCall) (s : State) : (s.raiseHost c).txData = s.txData := rfl
@[simp] theorem State.raiseHost_rxWord (c : HostCall) (s : State) : (s.raiseHost c).rxWord = s.rxWord := rfl
@[simp] theorem State.raiseHost_outcome (c : HostCall) (s : State) : (s.raiseHost c).outcome = s.outcome := rfl
@[simp] theorem State.raiseHost_slotIdx (c : HostCall) (s : State) : (s.raiseHost c).slotIdx = s.slotIdx := rfl
@[simp] theorem State.raiseHost_hostPort (c : HostCall) (s : State) : (s.raiseHost c).hostPort = some c := rfl
@[simp] theorem State.raiseHost_hookPress (c : HostCall) (s : State) : (s.raiseHost c).hookPress = s.hookPress := rfl
@[simp] theorem State.raiseHost_hookRelease (c : HostCall) (s : State) : (s.raiseHost c).hookRelease = s.hookRelease := rfl
@[simp] theorem State.raiseHost_kmScan (c : HostCall) (s : State) : (s.raiseHost c).kmScan = s.kmScan := rfl
@[simp] theorem State.raiseHost_retBit (c : HostCall) (s : State) : (s.raiseHost c).retBit = s.retBit := rfl
@[simp] theorem State.raiseHost_retWord (c : HostCall) (s : State) : (s.raiseHost c).retWord = s.retWord := rfl
@[simp] theorem State.raiseHost_now (c : HostCall) (s : State) : (s.raiseHost c).now = s.now := rfl
@[simp] theorem State.raiseHost_env (c : HostCall) (s : State) : (s.raiseHost c).env = s.env := rfl
@[simp] theorem State.raiseHost_cfg (c : HostCall) (s : State) : (s.raiseHost c).cfg = s.cfg := rfl
@[simp] theorem State.raiseHost_ctl_activity (c : HostCall) (s : State) : (s.raiseHost c).ctl.activity = s.ctl.activity := rfl
@[simp] theorem State.raiseHost_ctl_point (c : HostCall) (s : State) : (s.raiseHost c).ctl.point = s.ctl.point := rfl
@[simp] theorem State.raiseHost_ctl_rest (c : HostCall) (s : State) : (s.raiseHost c).ctl.rest = s.ctl.rest := rfl

@[simp] theorem State.dropHost_pinMode (s : State) : (s.dropHost).pinMode = s.pinMode := rfl
@[simp] theorem State.dropHost_indNum (s : State) : (s.dropHost).indNum = s.indNum := rfl
@[simp] theorem State.dropHost_indCaps (s : State) : (s.dropHost).indCaps = s.indCaps := rfl
@[simp] theorem State.dropHost_indScroll (s : State) : (s.dropHost).indScroll = s.indScroll := rfl
@[simp] theorem State.dropHost_hostActive (s : State) : (s.dropHost).hostActive = s.hostActive := rfl
@[simp] theorem State.dropHost_timer (s : State) : (s.dropHost).timer = s.timer := rfl
@[simp] theorem State.dropHost_waitCnt (s : State) : (s.dropHost).waitCnt = s.waitCnt := rfl
@[simp] theorem State.dropHost_bitCnt (s : State) : (s.dropHost).bitCnt = s.bitCnt := rfl
@[simp] theorem State.dropHost_txCmd (s : State) : (s.dropHost).txCmd = s.txCmd := rfl
@[simp] theorem State.dropHost_txData (s : State) : (s.dropHost).txData = s.txData := rfl
@[simp] theorem State.dropHost_rxWord (s : State) : (s.dropHost).rxWord = s.rxWord := rfl
@[simp] theorem State.dropHost_outcome (s : State) : (s.dropHost).outcome = s.outcome := rfl
@[simp] theorem State.dropHost_slotIdx (s : State) : (s.dropHost).slotIdx = s.slotIdx := rfl
@[simp] theorem State.dropHost_hostPort (s : State) : (s.dropHost).hostPort = none := rfl
@[simp] theorem State.dropHost_hookPress (s : State) : (s.dropHost).hookPress = s.hookPress := rfl
@[simp] theorem State.dropHost_hookRelease (s : State) : (s.dropHost).hookRelease = s.hookRelease := rfl
@[simp] theorem State.dropHost_kmScan (s : State) : (s.dropHost).kmScan = s.kmScan := rfl
@[simp] theorem State.dropHost_retBit (s : State) : (s.dropHost).retBit = s.retBit := rfl
@[simp] theorem State.dropHost_retWord (s : State) : (s.dropHost).retWord = s.retWord := rfl
@[simp] theorem State.dropHost_now (s : State) : (s.dropHost).now = s.now := rfl
@[simp] theorem State.dropHost_env (s : State) : (s.dropHost).env = s.env := rfl
@[simp] theorem State.dropHost_cfg (s : State) : (s.dropHost).cfg = s.cfg := rfl
@[simp] theorem State.dropHost_ctl_activity (s : State) : (s.dropHost).ctl.activity = s.ctl.activity := rfl
@[simp] theorem State.dropHost_ctl_point (s : State) : (s.dropHost).ctl.point = s.ctl.point := rfl
@[simp] theorem State.dropHost_ctl_rest (s : State) : (s.dropHost).ctl.rest = s.ctl.rest := rfl

@[simp] theorem State.setTimeout_pinMode (s : State) : (s.setTimeout).pinMode = s.pinMode := rfl
@[simp] theorem State.setTimeout_indNum (s : State) : (s.setTimeout).indNum = s.indNum := rfl
@[simp] theorem State.setTimeout_indCaps (s : State) : (s.setTimeout).indCaps = s.indCaps := rfl
@[simp] theorem State.setTimeout_indScroll (s : State) : (s.setTimeout).indScroll = s.indScroll := rfl
@[simp] theorem State.setTimeout_hostActive (s : State) : (s.setTimeout).hostActive = s.hostActive := rfl
@[simp] theorem State.setTimeout_timer (s : State) : (s.setTimeout).timer = s.timer := rfl
@[simp] theorem State.setTimeout_waitCnt (s : State) : (s.setTimeout).waitCnt = s.waitCnt := rfl
@[simp] theorem State.setTimeout_bitCnt (s : State) : (s.setTimeout).bitCnt = s.bitCnt := rfl
@[simp] theorem State.setTimeout_txCmd (s : State) : (s.setTimeout).txCmd = s.txCmd := rfl
@[simp] theorem State.setTimeout_txData (s : State) : (s.setTimeout).txData = s.txData := rfl
@[simp] theorem State.setTimeout_rxWord (s : State) : (s.setTimeout).rxWord = s.rxWord := rfl
@[simp] theorem State.setTimeout_outcome (s : State) : (s.setTimeout).outcome = .timeout := rfl
@[simp] theorem State.setTimeout_slotIdx (s : State) : (s.setTimeout).slotIdx = s.slotIdx := rfl
@[simp] theorem State.setTimeout_hostPort (s : State) : (s.setTimeout).hostPort = s.hostPort := rfl
@[simp] theorem State.setTimeout_hookPress (s : State) : (s.setTimeout).hookPress = s.hookPress := rfl
@[simp] theorem State.setTimeout_hookRelease (s : State) : (s.setTimeout).hookRelease = s.hookRelease := rfl
@[simp] theorem State.setTimeout_kmScan (s : State) : (s.setTimeout).kmScan = s.kmScan := rfl
@[simp] theorem State.setTimeout_retBit (s : State) : (s.setTimeout).retBit = s.retBit := rfl
@[simp] theorem State.setTimeout_retWord (s : State) : (s.setTimeout).retWord = s.retWord := rfl
@[simp] theorem State.setTimeout_now (s : State) : (s.setTimeout).now = s.now := rfl
@[simp] theorem State.setTimeout_env (s : State) : (s.setTimeout).env = s.env := rfl
@[simp] theorem State.setTimeout_cfg (s : State) : (s.setTimeout).cfg = s.cfg := rfl
@[simp] theorem State.setTimeout_ctl_activity (s : State) : (s.setTimeout).ctl.activity = s.ctl.activity := rfl
@[simp] theorem State.setTimeout_ctl_point (s : State) : (s.setTimeout).ctl.point = s.ctl.point := rfl
@[simp] theorem State.setTimeout_ctl_rest (s : State) : (s.setTimeout).ctl.rest = s.ctl.rest := rfl

@[simp] theorem State.setResponse_pinMode (s : State) : (s.setResponse).pinMode = s.pinMode := rfl
@[simp] theorem State.setResponse_indNum (s : State) : (s.setResponse).indNum = s.indNum := rfl
@[simp] theorem State.setResponse_indCaps (s : State) : (s.setResponse).indCaps = s.indCaps := rfl
@[simp] theorem State.setResponse_indScroll (s : State) : (s.setResponse).indScroll = s.indScroll := rfl
@[simp] theorem State.setResponse_hostActive (s : State) : (s.setResponse).hostActive = s.hostActive := rfl
@[simp] theorem State.setResponse_timer (s : State) : (s.setResponse).timer = s.timer := rfl
@[simp] theorem State.setResponse_waitCnt (s : State) : (s.setResponse).waitCnt = s.waitCnt := rfl
@[simp] theorem State.setResponse_bitCnt (s : State) : (s.setResponse).bitCnt = s.bitCnt := rfl
@[simp] theorem State.setResponse_txCmd (s : State) : (s.setResponse).txCmd = s.txCmd := rfl
@[simp] theorem State.setResponse_txData (s : State) : (s.setResponse).txData = s.txData := rfl
@[simp] theorem State.setResponse_rxWord (s : State) : (s.setResponse).rxWord = s.rxWord := rfl
@[simp] theorem State.setResponse_outcome (s : State) : (s.setResponse).outcome = .response := rfl
@[simp] theorem State.setResponse_slotIdx (s : State) : (s.setResponse).slotIdx = s.slotIdx := rfl
@[simp] theorem State.setResponse_hostPort (s : State) : (s.setResponse).hostPort = s.hostPort := rfl
@[simp] theorem State.setResponse_hookPress (s : State) : (s.setResponse).hookPress = s.hookPress := rfl
@[simp] theorem State.setResponse_hookRelease (s : State) : (s.setResponse).hookRelease = s.hookRelease := rfl
@[simp] theorem State.setResponse_kmScan (s : State) : (s.setResponse).kmScan = s.kmScan := rfl
@[simp] theorem State.setResponse_retBit (s : State) : (s.setResponse).retBit = s.retBit := rfl
@[simp] theorem State.setResponse_retWord (s : State) : (s.setResponse).retWord = s.retWord := rfl
@[simp] theorem State.setResponse_now (s : State) : (s.setResponse).now = s.now := rfl
@[simp] theorem State.setResponse_env (s : State) : (s.setResponse).env = s.env := rfl
@[simp] theorem State.setResponse_cfg (s : State) : (s.setResponse).cfg = s.cfg := rfl
@[simp] theorem State.setResponse_ctl_activity (s : State) : (s.setResponse).ctl.activity = s.ctl.activity := rfl
@[simp] theorem State.setResponse_ctl_point (s : State) : (s.setResponse).ctl.point = s.ctl.point := rfl
@[simp] theorem State.setResponse_ctl_rest (s : State) : (s.setResponse).ctl.rest = s.ctl.rest := rfl

@[simp] theorem State.senseLine_pinMode (s : State) : (s.senseLine).pinMode = s.pinMode := rfl
@[simp] theorem State.senseLine_indNum (s : State) : (s.senseLine).indNum = s.indNum := rfl
@[simp] theorem State.senseLine_indCaps (s : State) : (s.senseLine).indCaps = s.indCaps := rfl
@[simp] theorem State.senseLine_indScroll (s : State) : (s.senseLine).indScroll = s.indScroll := rfl
@[simp] theorem State.senseLine_hostActive (s : State) : (s.senseLine).hostActive = s.hostActive := rfl
@[simp] theorem State.senseLine_timer (s : State) : (s.senseLine).timer = s.timer := rfl
@[simp] theorem State.senseLine_waitCnt (s : State) : (s.senseLine).waitCnt = s.waitCnt := rfl
@[simp] theorem State.senseLine_bitCnt (s : State) : (s.senseLine).bitCnt = s.bitCnt := rfl
@[simp] theorem State.senseLine_txCmd (s : State) : (s.senseLine).txCmd = s.txCmd := rfl
@[simp] theorem State.senseLine_txData (s : State) : (s.senseLine).txData = s.txData := rfl
@[simp] theorem State.senseLine_rxWord (s : State) : (s.senseLine).rxWord = s.rxWord := rfl
@[simp] theorem State.senseLine_outcome (s : State) : (s.senseLine).outcome = s.outcome := rfl
@[simp] theorem State.senseLine_slotIdx (s : State) : (s.senseLine).slotIdx = s.slotIdx := rfl
@[simp] theorem State.senseLine_hostPort (s : State) : (s.senseLine).hostPort = s.hostPort := rfl
@[simp] theorem State.senseLine_hookPress (s : State) : (s.senseLine).hookPress = s.hookPress := rfl
@[simp] theorem State.senseLine_hookRelease (s : State) : (s.senseLine).hookRelease = s.hookRelease := rfl
@[simp] theorem State.senseLine_kmScan (s : State) : (s.senseLine).kmScan = s.kmScan := rfl
@[simp] theorem State.senseLine_retBit (s : State) : (s.senseLine).retBit = s.line := rfl
@[simp] theorem State.senseLine_retWord (s : State) : (s.senseLine).retWord = s.retWord := rfl
@[simp] theorem State.senseLine_now (s : State) : (s.senseLine).now = s.now := rfl
@[simp] theorem State.senseLine_env (s : State) : (s.senseLine).env = s.env := rfl
@[simp] theorem State.senseLine_cfg (s : State) : (s.senseLine).cfg = s.cfg := rfl
@[simp] theorem State.senseLine_ctl_activity (s : State) : (s.senseLine).ctl.activity = s.ctl.activity := rfl
@[simp] theorem State.senseLine_ctl_point (s : State) : (s.senseLine).ctl.point = s.ctl.point := rfl
@[simp] theorem State.senseLine_ctl_rest (s : State) : (s.senseLine).ctl.rest = s.ctl.rest := rfl

@[simp] theorem State.countBit_pinMode (s : State) : (s.countBit).pinMode = s.pinMode := rfl
@[simp] theorem State.countBit_indNum (s : State) : (s.countBit).indNum = s.indNum := rfl
@[simp] theorem State.countBit_indCaps (s : State) : (s.countBit).indCaps = s.indCaps := rfl
@[simp] theorem State.countBit_indScroll (s : State) : (s.countBit).indScroll = s.indScroll := rfl
@[simp] theorem State.countBit_hostActive (s : State) : (s.countBit).hostActive = s.hostActive := rfl
@[simp] theorem State.countBit_timer (s : State) : (s.countBit).timer = s.timer := rfl
@[simp] theorem State.countBit_waitCnt (s : State) : (s.countBit).waitCnt = s.waitCnt := rfl
@[simp] theorem State.countBit_bitCnt (s : State) : (s.countBit).bitCnt = s.bitCnt - 1 := rfl
@[simp] theorem State.countBit_txCmd (s : State) : (s.countBit).txCmd = s.txCmd := rfl
@[simp] theorem State.countBit_txData (s : State) : (s.countBit).txData = s.txData := rfl
@[simp] theorem State.countBit_rxWord (s : State) : (s.countBit).rxWord = s.rxWord := rfl
@[simp] theorem State.countBit_outcome (s : State) : (s.countBit).outcome = s.outcome := rfl
@[simp] theorem State.countBit_slotIdx (s : State) : (s.countBit).slotIdx = s.slotIdx := rfl
@[simp] theorem State.countBit_hostPort (s : State) : (s.countBit).hostPort = s.hostPort := rfl
@[simp] theorem State.countBit_hookPress (s : State) : (s.countBit).hookPress = s.hookPress := rfl
@[simp] theorem State.countBit_hookRelease (s : State) : (s.countBit).hookRelease = s.hookRelease := rfl
@[simp] theorem State.countBit_kmScan (s : State) : (s.countBit).kmScan = s.kmScan := rfl
@[simp] theorem State.countBit_retBit (s : State) : (s.countBit).retBit = s.retBit := rfl
@[simp] theorem State.countBit_retWord (s : State) : (s.countBit).retWord = s.retWord := rfl
@[simp] theorem State.countBit_now (s : State) : (s.countBit).now = s.now := rfl
@[simp] theorem State.countBit_env (s : State) : (s.countBit).env = s.env := rfl
@[simp] theorem State.countBit_cfg (s : State) : (s.countBit).cfg = s.cfg := rfl
@[simp] theorem State.countBit_ctl_activity (s : State) : (s.countBit).ctl.activity = s.ctl.activity := rfl
@[simp] theorem State.countBit_ctl_point (s : State) : (s.countBit).ctl.point = s.ctl.point := rfl
@[simp] theorem State.countBit_ctl_rest (s : State) : (s.countBit).ctl.rest = s.ctl.rest := rfl

@[simp] theorem State.loadBits_pinMode (n : Nat) (s : State) : (s.loadBits n).pinMode = s.pinMode := rfl
@[simp] theorem State.loadBits_indNum (n : Nat) (s : State) : (s.loadBits n).indNum = s.indNum := rfl
@[simp] theorem State.loadBits_indCaps (n : Nat) (s : State) : (s.loadBits n).indCaps = s.indCaps := rfl
@[simp] theorem State.loadBits_indScroll (n : Nat) (s : State) : (s.loadBits n).indScroll = s.indScroll := rfl
@[simp] theorem State.loadBits_hostActive (n : Nat) (s : State) : (s.loadBits n).hostActive = s.hostActive := rfl
@[simp] theorem State.loadBits_timer (n : Nat) (s : State) : (s.loadBits n).timer = s.timer := rfl
@[simp] theorem State.loadBits_waitCnt (n : Nat) (s : State) : (s.loadBits n).waitCnt = s.waitCnt := rfl
@[simp] theorem State.loadBits_bitCnt (n : Nat) (s : State) : (s.loadBits n).bitCnt = n := rfl
@[simp] theorem State.loadBits_txCmd (n : Nat) (s : State) : (s.loadBits n).txCmd = s.txCmd := rfl
@[simp] theorem State.loadBits_txData (n : Nat) (s : State) : (s.loadBits n).txData = s.txData := rfl
@[simp] theorem State.loadBits_rxWord (n : Nat) (s : State) : (s.loadBits n).rxWord = s.rxWord := rfl
@[simp] theorem State.loadBits_outcome (n : Nat) (s : State) : (s.loadBits n).outcome = s.outcome := rfl
@[simp] theorem State.loadBits_slotIdx (n : Nat) (s : State) : (s.loadBits n).slotIdx = s.slotIdx := rfl
@[simp] theorem State.loadBits_hostPort (n : Nat) (s : State) : (s.loadBits n).hostPort = s.hostPort := rfl
@[simp] theorem State.loadBits_hookPress (n : Nat) (s : State) : (s.loadBits n).hookPress = s.hookPress := rfl
@[simp] theorem State.loadBits_hookRelease (n : Nat) (s : State) : (s.loadBits n).hookRelease = s.hookRelease := rfl
@[simp] theorem State.loadBits_kmScan (n : Nat) (s : State) : (s.loadBits n).kmScan = s.kmScan := rfl
@[simp] theorem State.loadBits_retBit (n : Nat) (s : State) : (s.loadBits n).retBit = s.retBit := rfl
@[simp] theorem State.loadBits_retWord (n : Nat) (s : State) : (s.loadBits n).retWord = s.retWord := rfl
@[simp] theorem State.loadBits_now (n : Nat) (s : State) : (s.loadBits n).now = s.now := rfl
@[simp] theorem State.loadBits_env (n : Nat) (s : State) : (s.loadBits n).env = s.env := rfl
@[simp] theorem State.loadBits_cfg (n : Nat) (s : State) : (s.loadBits n).cfg = s.cfg := rfl
@[simp] theorem State.loadBits_ctl_activity (n : Nat) (s : State) : (s.loadBits n).ctl.activity = s.ctl.activity := rfl
@[simp] theorem State.loadBits_ctl_point (n : Nat) (s : State) : (s.loadBits n).ctl.point = s.ctl.point := rfl
@[simp] theorem State.loadBits_ctl_rest (n : Nat) (s : State) : (s.loadBits n).ctl.rest = s.ctl.rest := rfl

@[simp] theorem State.loadCmd_pinMode (a : BitVec 4) (code r : BitVec 2) (s : State) : (s.loadCmd a code r).pinMode = s.pinMode := rfl
@[simp] theorem State.loadCmd_indNum (a : BitVec 4) (code r : BitVec 2) (s : State) : (s.loadCmd a code r).indNum = s.indNum := rfl
@[simp] theorem State.loadCmd_indCaps (a : BitVec 4) (code r : BitVec 2) (s : State) : (s.loadCmd a code r).indCaps = s.indCaps := rfl
@[simp] theorem State.loadCmd_indScroll (a : BitVec 4) (code r : BitVec 2) (s : State) : (s.loadCmd a code r).indScroll = s.indScroll := rfl
@[simp] theorem State.loadCmd_hostActive (a : BitVec 4) (code r : BitVec 2) (s : State) : (s.loadCmd a code r).hostActive = s.hostActive := rfl
@[simp] theorem State.loadCmd_timer (a : BitVec 4) (code r : BitVec 2) (s : State) : (s.loadCmd a code r).timer = s.timer := rfl
@[simp] theorem State.loadCmd_waitCnt (a : BitVec 4) (code r : BitVec 2) (s : State) : (s.loadCmd a code r).waitCnt = s.waitCnt := rfl
@[simp] theorem State.loadCmd_bitCnt (a : BitVec 4) (code r : BitVec 2) (s : State) : (s.loadCmd a code r).bitCnt = s.bitCnt := rfl
@[simp] theorem State.loadCmd_txCmd (a : BitVec 4) (code r : BitVec 2) (s : State) : (s.loadCmd a code r).txCmd = cmdByte a code r := rfl
@[simp] theorem State.loadCmd_txData (a : BitVec 4) (code r : BitVec 2) (s : State) : (s.loadCmd a code r).txData = s.txData := rfl
@[simp] theorem State.loadCmd_rxWord (a : BitVec 4) (code r : BitVec 2) (s : State) : (s.loadCmd a code r).rxWord = s.rxWord := rfl
@[simp] theorem State.loadCmd_outcome (a : BitVec 4) (code r : BitVec 2) (s : State) : (s.loadCmd a code r).outcome = s.outcome := rfl
@[simp] theorem State.loadCmd_slotIdx (a : BitVec 4) (code r : BitVec 2) (s : State) : (s.loadCmd a code r).slotIdx = s.slotIdx := rfl
@[simp] theorem State.loadCmd_hostPort (a : BitVec 4) (code r : BitVec 2) (s : State) : (s.loadCmd a code r).hostPort = s.hostPort := rfl
@[simp] theorem State.loadCmd_hookPress (a : BitVec 4) (code r : BitVec 2) (s : State) : (s.loadCmd a code r).hookPress = s.hookPress := rfl
@[simp] theorem State.loadCmd_hookRelease (a : BitVec 4) (code r : BitVec 2) (s : State) : (s.loadCmd a code r).hookRelease = s.hookRelease := rfl
@[simp] theorem State.loadCmd_kmScan (a : BitVec 4) (code r : BitVec 2) (s : State) : (s.loadCmd a code r).kmScan = s.kmScan := rfl
@[simp] theorem State.loadCmd_retBit (a : BitVec 4) (code r : BitVec 2) (s : State) : (s.loadCmd a code r).retBit = s.retBit := rfl
@[simp] theorem State.loadCmd_retWord (a : BitVec 4) (code r : BitVec 2) (s : State) : (s.loadCmd a code r).retWord = s.retWord := rfl
@[simp] theorem State.loadCmd_now (a : BitVec 4) (code r : BitVec 2) (s : State) : (s.loadCmd a code r).now = s.now := rfl
@[simp] theorem State.loadCmd_env (a : BitVec 4) (code r : BitVec 2) (s : State) : (s.loadCmd a code r).env = s.env := rfl
@[simp] theorem State.loadCmd_cfg (a : BitVec 4) (code r : BitVec 2) (s : State) : (s.loadCmd a code r).cfg = s.cfg := rfl
@[simp] theorem State.loadCmd_ctl_activity (a : BitVec 4) (code r : BitVec 2) (s : State) : (s.loadCmd a code r).ctl.activity = s.ctl.activity := rfl
@[simp] theorem State.loadCmd_ctl_point (a : BitVec 4) (code r : BitVec 2) (s : State) : (s.loadCmd a code r).ctl.point = s.ctl.point := rfl
@[simp] theorem State.loadCmd_ctl_rest (a : BitVec 4) (code r : BitVec 2) (s : State) : (s.loadCmd a code r).ctl.rest = s.ctl.rest := rfl

@[simp] theorem State.loadData_pinMode (d : BitVec 16) (s : State) : (s.loadData d).pinMode = s.pinMode := rfl
@[simp] theorem State.loadData_indNum (d : BitVec 16) (s : State) : (s.loadData d).indNum = s.indNum := rfl
@[simp] theorem State.loadData_indCaps (d : BitVec 16) (s : State) : (s.loadData d).indCaps = s.indCaps := rfl
@[simp] theorem State.loadData_indScroll (d : BitVec 16) (s : State) : (s.loadData d).indScroll = s.indScroll := rfl
@[simp] theorem State.loadData_hostActive (d : BitVec 16) (s : State) : (s.loadData d).hostActive = s.hostActive := rfl
@[simp] theorem State.loadData_timer (d : BitVec 16) (s : State) : (s.loadData d).timer = s.timer := rfl
@[simp] theorem State.loadData_waitCnt (d : BitVec 16) (s : State) : (s.loadData d).waitCnt = s.waitCnt := rfl
@[simp] theorem State.loadData_bitCnt (d : BitVec 16) (s : State) : (s.loadData d).bitCnt = s.bitCnt := rfl
@[simp] theorem State.loadData_txCmd (d : BitVec 16) (s : State) : (s.loadData d).txCmd = s.txCmd := rfl
@[simp] theorem State.loadData_txData (d : BitVec 16) (s : State) : (s.loadData d).txData = d := rfl
@[simp] theorem State.loadData_rxWord (d : BitVec 16) (s : State) : (s.loadData d).rxWord = s.rxWord := rfl
@[simp] theorem State.loadData_outcome (d : BitVec 16) (s : State) : (s.loadData d).outcome = s.outcome := rfl
@[simp] theorem State.loadData_slotIdx (d : BitVec 16) (s : State) : (s.loadData d).slotIdx = s.slotIdx := rfl
@[simp] theorem State.loadData_hostPort (d : BitVec 16) (s : State) : (s.loadData d).hostPort = s.hostPort := rfl
@[simp] theorem State.loadData_hookPress (d : BitVec 16) (s : State) : (s.loadData d).hookPress = s.hookPress := rfl
@[simp] theorem State.loadData_hookRelease (d : BitVec 16) (s : State) : (s.loadData d).hookRelease = s.hookRelease := rfl
@[simp] theorem State.loadData_kmScan (d : BitVec 16) (s : State) : (s.loadData d).kmScan = s.kmScan := rfl
@[simp] theorem State.loadData_retBit (d : BitVec 16) (s : State) : (s.loadData d).retBit = s.retBit := rfl
@[simp] theorem State.loadData_retWord (d : BitVec 16) (s : State) : (s.loadData d).retWord = s.retWord := rfl
@[simp] theorem State.loadData_now (d : BitVec 16) (s : State) : (s.loadData d).now = s.now := rfl
@[simp] theorem State.loadData_env (d : BitVec 16) (s : State) : (s.loadData d).env = s.env := rfl
@[simp] theorem State.loadData_cfg (d : BitVec 16) (s : State) : (s.loadData d).cfg = s.cfg := rfl
@[simp] theorem State.loadData_ctl_activity (d : BitVec 16) (s : State) : (s.loadData d).ctl.activity = s.ctl.activity := rfl
@[simp] theorem State.loadData_ctl_point (d : BitVec 16) (s : State) : (s.loadData d).ctl.point = s.ctl.point := rfl
@[simp] theorem State.loadData_ctl_rest (d : BitVec 16) (s : State) : (s.loadData d).ctl.rest = s.ctl.rest := rfl

@[simp] theorem State.flipCaps_pinMode (s : State) : (s.flipCaps).pinMode = s.pinMode := rfl
@[simp] theorem State.flipCaps_indNum (s : State) : (s.flipCaps).indNum = s.indNum := rfl
@[simp] theorem State.flipCaps_indCaps (s : State) : (s.flipCaps).indCaps = !s.indCaps := rfl
@[simp] theorem State.flipCaps_indScroll (s : State) : (s.flipCaps).indScroll = s.indScroll := rfl
@[simp] theorem State.flipCaps_hostActive (s : State) : (s.flipCaps).hostActive = s.hostActive := rfl
@[simp] theorem State.flipCaps_timer (s : State) : (s.flipCaps).timer = s.timer := rfl
@[simp] theorem State.flipCaps_waitCnt (s : State) : (s.flipCaps).waitCnt = s.waitCnt := rfl
@[simp] theorem State.flipCaps_bitCnt (s : State) : (s.flipCaps).bitCnt = s.bitCnt := rfl
@[simp] theorem State.flipCaps_txCmd (s : State) : (s.flipCaps).txCmd = s.txCmd := rfl
@[simp] theorem State.flipCaps_txData (s : State) : (s.flipCaps).txData = s.txData := rfl
@[simp] theorem State.flipCaps_rxWord (s : State) : (s.flipCaps).rxWord = s.rxWord := rfl
@[simp] theorem State.flipCaps_outcome (s : State) : (s.flipCaps).outcome = s.outcome := rfl
@[simp] theorem State.flipCaps_slotIdx (s : State) : (s.flipCaps).slotIdx = s.slotIdx := rfl
@[simp] theorem State.flipCaps_hostPort (s : State) : (s.flipCaps).hostPort = s.hostPort := rfl
@[simp] theorem State.flipCaps_hookPress (s : State) : (s.flipCaps).hookPress = s.hookPress := rfl
@[simp] theorem State.flipCaps_hookRelease (s : State) : (s.flipCaps).hookRelease = s.hookRelease := rfl
@[simp] theorem State.flipCaps_kmScan (s : State) : (s.flipCaps).kmScan = s.kmScan := rfl
@[simp] theorem State.flipCaps_retBit (s : State) : (s.flipCaps).retBit = s.retBit := rfl
@[simp] theorem State.flipCaps_retWord (s : State) : (s.flipCaps).retWord = s.retWord := rfl
@[simp] theorem State.flipCaps_now (s : State) : (s.flipCaps).now = s.now := rfl
@[simp] theorem State.flipCaps_env (s : State) : (s.flipCaps).env = s.env := rfl
@[simp] theorem State.flipCaps_cfg (s : State) : (s.flipCaps).cfg = s.cfg := rfl
@[simp] theorem State.flipCaps_ctl_activity (s : State) : (s.flipCaps).ctl.activity = s.ctl.activity := rfl
@[simp] theorem State.flipCaps_ctl_point (s : State) : (s.flipCaps).ctl.point = s.ctl.point := rfl
@[simp] theorem State.flipCaps_ctl_rest (s : State) : (s.flipCaps).ctl.rest = s.ctl.rest := rfl

@[simp] theorem State.presentScan_pinMode (scan : BitVec 7) (s : State) : (s.presentScan scan).pinMode = s.pinMode := rfl
@[simp] theorem State.presentScan_indNum (scan : BitVec 7) (s : State) : (s.presentScan scan).indNum = s.indNum := rfl
@[simp] theorem State.presentScan_indCaps (scan : BitVec 7) (s : State) : (s.presentScan scan).indCaps = s.indCaps := rfl
@[simp] theorem State.presentScan_indScroll (scan : BitVec 7) (s : State) : (s.presentScan scan).indScroll = s.indScroll := rfl
@[simp] theorem State.presentScan_hostActive (scan : BitVec 7) (s : State) : (s.presentScan scan).hostActive = s.hostActive := rfl
@[simp] theorem State.presentScan_timer (scan : BitVec 7) (s : State) : (s.presentScan scan).timer = s.timer := rfl
@[simp] theorem State.presentScan_waitCnt (scan : BitVec 7) (s : State) : (s.presentScan scan).waitCnt = s.waitCnt := rfl
@[simp] theorem State.presentScan_bitCnt (scan : BitVec 7) (s : State) : (s.presentScan scan).bitCnt = s.bitCnt := rfl
@[simp] theorem State.presentScan_txCmd (scan : BitVec 7) (s : State) : (s.presentScan scan).txCmd = s.txCmd := rfl
@[simp] theorem State.presentScan_txData (scan : BitVec 7) (s : State) : (s.presentScan scan).txData = s.txData := rfl
@[simp] theorem State.presentScan_rxWord (scan : BitVec 7) (s : State) : (s.presentScan scan).rxWord = s.rxWord := rfl
@[simp] theorem State.presentScan_outcome (scan : BitVec 7) (s : State) : (s.presentScan scan).outcome = s.outcome := rfl
@[simp] theorem State.presentScan_slotIdx (scan : BitVec 7) (s : State) : (s.presentScan scan).slotIdx = s.slotIdx := rfl
@[simp] theorem State.presentScan_hostPort (scan : BitVec 7) (s : State) : (s.presentScan scan).hostPort = s.hostPort := rfl
@[simp] theorem State.presentScan_hookPress (scan : BitVec 7) (s : State) : (s.presentScan scan).hookPress = s.hookPress := rfl
@[simp] theorem State.presentScan_hookRelease (scan : BitVec 7) (s : State) : (s.presentScan scan).hookRelease = s.hookRelease := rfl
@[simp] theorem State.presentScan_kmScan (scan : BitVec 7) (s : State) : (s.presentScan scan).kmScan = scan := rfl
@[simp] theorem State.presentScan_retBit (scan : BitVec 7) (s : State) : (s.presentScan scan).retBit = s.retBit := rfl
@[simp] theorem State.presentScan_retWord (scan : BitVec 7) (s : State) : (s.presentScan scan).retWord = s.retWord := rfl
@[simp] theorem State.presentScan_now (scan : BitVec 7) (s : State) : (s.presentScan scan).now = s.now := rfl
@[simp] theorem State.presentScan_env (scan : BitVec 7) (s : State) : (s.presentScan scan).env = s.env := rfl
@[simp] theorem State.presentScan_cfg (scan : BitVec 7) (s : State) : (s.presentScan scan).cfg = s.cfg := rfl
@[simp] theorem State.presentScan_ctl_activity (scan : BitVec 7) (s : State) : (s.presentScan scan).ctl.activity = s.ctl.activity := rfl
@[simp] theorem State.presentScan_ctl_point (scan : BitVec 7) (s : State) : (s.presentScan scan).ctl.point = s.ctl.point := rfl
@[simp] theorem State.presentScan_ctl_rest (scan : BitVec 7) (s : State) : (s.presentScan scan).ctl.rest = s.ctl.rest := rfl

@[simp] theorem State.pack_pinMode (s : State) : (s.pack).pinMode = s.pinMode := rfl
@[simp] theorem State.pack_indNum (s : State) : (s.pack).indNum = s.indNum := rfl
@[simp] theorem State.pack_indCaps (s : State) : (s.pack).indCaps = s.indCaps := rfl
@[simp] theorem State.pack_indScroll (s : State) : (s.pack).indScroll = s.indScroll := rfl
@[simp] theorem State.pack_hostActive (s : State) : (s.pack).hostActive = s.hostActive := rfl
@[simp] theorem State.pack_timer (s : State) : (s.pack).timer = s.timer := rfl
@[simp] theorem State.pack_waitCnt (s : State) : (s.pack).waitCnt = s.waitCnt := rfl
@[simp] theorem State.pack_bitCnt (s : State) : (s.pack).bitCnt = s.bitCnt := rfl
@[simp] theorem State.pack_txCmd (s : State) : (s.pack).txCmd = s.txCmd := rfl
@[simp] theorem State.pack_txData (s : State) : (s.pack).txData = s.txData := rfl
@[simp] theorem State.pack_rxWord (s : State) : (s.pack).rxWord = s.rxWord := rfl
@[simp] theorem State.pack_outcome (s : State) : (s.pack).outcome = s.outcome := rfl
@[simp] theorem State.pack_slotIdx (s : State) : (s.pack).slotIdx = s.slotIdx := rfl
@[simp] theorem State.pack_hostPort (s : State) : (s.pack).hostPort = s.hostPort := rfl
@[simp] theorem State.pack_hookPress (s : State) : (s.pack).hookPress = s.hookPress := rfl
@[simp] theorem State.pack_hookRelease (s : State) : (s.pack).hookRelease = s.hookRelease := rfl
@[simp] theorem State.pack_kmScan (s : State) : (s.pack).kmScan = s.kmScan := rfl
@[simp] theorem State.pack_retBit (s : State) : (s.pack).retBit = s.retBit := rfl
@[simp] theorem State.pack_retWord (s : State) : (s.pack).retWord = s.indicators := rfl
@[simp] theorem State.pack_now (s : State) : (s.pack).now = s.now := rfl
@[simp] theorem State.pack_env (s : State) : (s.pack).env = s.env := rfl
@[simp] theorem State.pack_cfg (s : State) : (s.pack).cfg = s.cfg := rfl
@[simp] theorem State.pack_ctl_activity (s : State) : (s.pack).ctl.activity = s.ctl.activity := rfl
@[simp] theorem State.pack_ctl_point (s : State) : (s.pack).ctl.point = s.ctl.point := rfl
@[simp] theorem State.pack_ctl_rest (s : State) : (s.pack).ctl.rest = s.ctl.rest := rfl

end Sys2Proof.Machine
end

