-- ==== Sys2Proof/Laws/Ops.lean ====
section
/-! SUPPORT. One specification lemma for each shared operation: everything it can do, in closed form, and the cases of
one step.  Later proofs cite these and do not unfold the operations. -/

namespace Sys2Proof.Machine

variable (s : State)

/-! ## Symbols and frames -/

theorem play_eq (m : PinMode) (p : Point) (n : Nat) :
    s.play m p n = { s with pinMode := m, timer := n, ctl := { s.ctl with point := p } } := rfl

theorem symbol_eq (pL : Point) (nL : Nat) (pH : Point) (nH : Nat) :
    s.symbol pL nL pH nH =
      { s with
        pinMode := .driveLow, timer := nL,
        ctl := { s.ctl with point := pL, rest := .seq (.play .release pH nH) :: s.ctl.rest } } := rfl

theorem cell_eq (pL pH : Point) (b : Bit) :
    s.cell pL pH b =
      { s with
        pinMode := .driveLow, timer := s.cfg.cellLow b,
        ctl := { s.ctl with point := pL, rest := .seq (.play .release pH (s.cfg.cellHigh b)) :: s.ctl.rest } } :=
  rfl

theorem attention_eq :
    s.attention =
      { s with
        pinMode := .driveLow, timer := s.cfg.ticks s.cfg.tAttnLow,
        ctl := { s.ctl with
          point := .attnLow,
          rest := .seq (.play .release .syncHigh (s.cfg.ticks s.cfg.tSyncHigh)) :: s.ctl.rest } } := rfl

theorem resetPulse_eq :
    s.resetPulse =
      { s with
        pinMode := .driveLow, timer := s.cfg.ticks s.cfg.tResetLow,
        ctl := { s.ctl with
          point := .resetLow,
          rest := .seq (.play .release .resetSettle (s.cfg.ticks s.cfg.tResetSettle)) :: s.ctl.rest } } := rfl

/-- `emitCommand`: the register, the count of bits, and the attention that begins the frame. -/
theorem command_eq (a : BitVec 4) (code r : BitVec 2) :
    s.command a code r =
      { s with
        pinMode := .driveLow, timer := s.cfg.ticks s.cfg.tAttnLow, txCmd := cmdByte a code r, bitCnt := 8,
        ctl := { s.ctl with
          point := .attnLow,
          rest := .seq (.play .release .syncHigh (s.cfg.ticks s.cfg.tSyncHigh))
            :: .seq (.sendBits .cmd) :: s.ctl.rest } } := rfl

/-- `sendRead` is a command frame whose continuation waits for the answer. -/
theorem sendRead_command (a : BitVec 4) (r : BitVec 2) :
    s.sendRead a r = (s.push [.seq .waitBegin]).command a s.cfg.cmdRead r := rfl

theorem sendRead_eq (a : BitVec 4) (r : BitVec 2) :
    s.sendRead a r =
      { s with
        pinMode := .driveLow, timer := s.cfg.ticks s.cfg.tAttnLow, txCmd := cmdByte a s.cfg.cmdRead r, bitCnt := 8,
        ctl := { s.ctl with
          point := .attnLow,
          rest := .seq (.play .release .syncHigh (s.cfg.ticks s.cfg.tSyncHigh))
            :: .seq (.sendBits .cmd) :: .seq .waitBegin :: s.ctl.rest } } := by
  rw [sendRead_command, command_eq]; rfl

/-- `sendWrite` is a command frame whose continuation sends the data. -/
theorem sendWrite_command (a : BitVec 4) (r : BitVec 2) (d : BitVec 16) :
    s.sendWrite a r d = (({ s with txData := d }).push [.seq .writeGap]).command a s.cfg.cmdWrite r := rfl

theorem sendWrite_eq (a : BitVec 4) (r : BitVec 2) (d : BitVec 16) :
    s.sendWrite a r d =
      { s with
        pinMode := .driveLow, timer := s.cfg.ticks s.cfg.tAttnLow, txCmd := cmdByte a s.cfg.cmdWrite r,
        txData := d, bitCnt := 8,
        ctl := { s.ctl with
          point := .attnLow,
          rest := .seq (.play .release .syncHigh (s.cfg.ticks s.cfg.tSyncHigh))
            :: .seq (.sendBits .cmd) :: .seq .writeGap :: s.ctl.rest } } := by
  rw [sendWrite_command, command_eq]; rfl

theorem writeGap_eq :
    s.writeGap =
      { s with
        pinMode := .release, timer := s.cfg.ticks s.cfg.tGap,
        ctl := { s.ctl with point := .gap, rest := .seq .writeData :: s.ctl.rest } } := rfl

theorem writeData_eq :
    s.writeData =
      { s with
        pinMode := .driveLow, timer := s.cfg.cellLow s.cfg.startBit, bitCnt := 16,
        ctl := { s.ctl with
          point := .dstartLow,
          rest := .seq (.play .release .dstartHigh (s.cfg.cellHigh s.cfg.startBit))
            :: .seq (.sendBits .data) :: s.ctl.rest } } := rfl

theorem sendBits_stop (f : TxField) (h : s.bitCnt = 0) :
    s.sendBits f = s.cell (stopLowPoint f) (stopHighPoint f) s.cfg.stopBit := by
  simp [State.sendBits, h]

theorem sendBits_bit (f : TxField) (i : Nat) (h : s.bitCnt = i + 1) :
    s.sendBits f = (s.push [.seq (.nextBit f)]).cell (bitLowPoint f i) (bitHighPoint f i) (s.txBit f i) := by
  simp [State.sendBits, h]

/-- Everything `sendBits` can do: the stop cell after the last bit, or the cell of the next bit. -/
theorem sendBits_cases (f : TxField) :
    (s.bitCnt = 0 ∧ s.sendBits f = s.cell (stopLowPoint f) (stopHighPoint f) s.cfg.stopBit)
      ∨ ∃ i, s.bitCnt = i + 1 ∧ s.sendBits f
          = (s.push [.seq (.nextBit f)]).cell (bitLowPoint f i) (bitHighPoint f i) (s.txBit f i) := by
  cases h : s.bitCnt with
  | zero => exact .inl ⟨rfl, sendBits_stop s f h⟩
  | succ i => exact .inr ⟨i, rfl, sendBits_bit s f i h⟩

/-! ## Receiver -/

theorem waitPoll_timeout (h : s.waitCnt = 0) : s.waitPoll = { s with outcome := .timeout } := by
  simp [State.waitPoll, h, State.raiseTimeout, State.setTimeout]

theorem waitPoll_found (h : s.waitCnt ≠ 0) (hl : s.line = 0#1) :
    s.waitPoll =
      { s with
        rxWord := some 0, bitCnt := 16, timer := s.cfg.ticks s.cfg.tRespSettle,
        ctl := { s.ctl with point := .rxSettle, rest := .seq .rxBit :: s.ctl.rest } } := by
  simp [State.waitPoll, h, hl]; rfl

theorem waitPoll_again (h : s.waitCnt ≠ 0) (hl : s.line ≠ 0#1) :
    s.waitPoll =
      { s with timer := 1, ctl := { s.ctl with point := .waitStart, rest := .seq .waitNext :: s.ctl.rest } } := by
  simp [State.waitPoll, h, hl]; rfl

theorem rxLow_high (hl : s.line = 1#1) :
    s.rxLow =
      { s with
        timer := 1,
        ctl := { s.ctl with point := .rxWaitLow (s.bitCnt - 1), rest := .seq .rxLow :: s.ctl.rest } } := by
  simp [State.rxLow, hl]; rfl

theorem rxLow_low (hl : s.line = 0#1) :
    s.rxLow =
      { s with
        timer := 1,
        ctl := { s.ctl with point := .rxWaitHigh (s.bitCnt - 1), rest := .seq .rxHigh :: s.ctl.rest } } := by
  simp [State.rxLow, State.rxHigh, hl]; rfl

theorem rxHigh_low (hl : s.line = 0#1) :
    s.rxHigh =
      { s with
        timer := 1,
        ctl := { s.ctl with point := .rxWaitHigh (s.bitCnt - 1), rest := .seq .rxHigh :: s.ctl.rest } } := by
  simp [State.rxHigh, hl]; rfl

theorem rxHigh_high (hl : s.line = 1#1) :
    s.rxHigh =
      { s with
        timer := s.cfg.ticks s.cfg.tSampleOffset,
        ctl := { s.ctl with point := .rxOffset (s.bitCnt - 1), rest := .seq .rxTake :: s.ctl.rest } } := by
  simp [State.rxHigh, hl]; rfl

theorem bit_zero_or_one (b : Bit) : b = 0#1 ∨ b = 1#1 := by revert b; decide

/-- Everything a poll of the bounded wait can do: time out, find the start, or wait one tick. -/
theorem waitPoll_cases :
    (s.waitCnt = 0 ∧ s.waitPoll = { s with outcome := .timeout })
      ∨ (s.waitCnt ≠ 0 ∧ s.line = 0#1 ∧ s.waitPoll = { s with
          rxWord := some 0, bitCnt := 16, timer := s.cfg.ticks s.cfg.tRespSettle,
          ctl := { s.ctl with point := .rxSettle, rest := .seq .rxBit :: s.ctl.rest } })
      ∨ (s.waitCnt ≠ 0 ∧ s.line = 1#1 ∧ s.waitPoll = { s with
          timer := 1, ctl := { s.ctl with point := .waitStart, rest := .seq .waitNext :: s.ctl.rest } }) := by
  by_cases h : s.waitCnt = 0
  · exact .inl ⟨h, waitPoll_timeout s h⟩
  · rcases bit_zero_or_one s.line with hl | hl
    · exact .inr (.inl ⟨h, hl, waitPoll_found s h hl⟩)
    · exact .inr (.inr ⟨h, hl, waitPoll_again s h (by simp [hl])⟩)

/-- Everything the second edge wait can do: wait one tick, or begin the offset. -/
theorem rxHigh_cases :
    (s.line = 0#1 ∧ s.rxHigh = { s with
        timer := 1,
        ctl := { s.ctl with point := .rxWaitHigh (s.bitCnt - 1), rest := .seq .rxHigh :: s.ctl.rest } })
      ∨ (s.line = 1#1 ∧ s.rxHigh = { s with
        timer := s.cfg.ticks s.cfg.tSampleOffset,
        ctl := { s.ctl with point := .rxOffset (s.bitCnt - 1), rest := .seq .rxTake :: s.ctl.rest } }) := by
  rcases bit_zero_or_one s.line with h | h
  · exact .inl ⟨h, rxHigh_low s h⟩
  · exact .inr ⟨h, rxHigh_high s h⟩

/-- Everything the first edge wait can do: wait one tick in either loop of `sampleBit`. -/
theorem rxLow_cases :
    (s.line = 1#1 ∧ s.rxLow = { s with
        timer := 1,
        ctl := { s.ctl with point := .rxWaitLow (s.bitCnt - 1), rest := .seq .rxLow :: s.ctl.rest } })
      ∨ (s.line = 0#1 ∧ s.rxLow = { s with
        timer := 1,
        ctl := { s.ctl with point := .rxWaitHigh (s.bitCnt - 1), rest := .seq .rxHigh :: s.ctl.rest } }) := by
  rcases bit_zero_or_one s.line with h | h
  · exact .inr ⟨h, rxLow_low s h⟩
  · exact .inl ⟨h, rxLow_high s h⟩

/-- Everything the receive loop can do: the next bit, or the end of the reception. -/
theorem rxBit_cases :
    (s.bitCnt = 0 ∧ s.rxBit = { s with outcome := .response })
      ∨ (s.bitCnt ≠ 0 ∧ s.rxBit = (s.push [.seq .rxShift]).rxLow) := by
  by_cases h : s.bitCnt = 0
  · exact .inl ⟨h, if_pos h⟩
  · exact .inr ⟨h, if_neg h⟩

/-! ## Collaborators -/

theorem hostEmit_ready (c : HostCall) (h : s.hostReady = true) :
    s.hostEmit c =
      { s with
        hostPort := some c, hostActive := s.hostActive || decide (c = .activate), timer := 1,
        ctl := { s.ctl with point := .hostOp, rest := .seq .hostDone :: s.ctl.rest } } := by
  simp [State.hostEmit, h]; rfl

theorem hostEmit_busy (c : HostCall) (h : s.hostReady = false) :
    s.hostEmit c =
      { s with timer := 1, ctl := { s.ctl with point := .hostWait, rest := .seq (.hostTry c) :: s.ctl.rest } } := by
  simp [State.hostEmit, h]; rfl

/-- Everything `hostEmit` can do: hand the operation over, or wait one tick. -/
theorem hostEmit_cases (c : HostCall) :
    (s.hostReady = true ∧ s.hostEmit c = { s with
        hostPort := some c, hostActive := s.hostActive || decide (c = .activate), timer := 1,
        ctl := { s.ctl with point := .hostOp, rest := .seq .hostDone :: s.ctl.rest } })
      ∨ (s.hostReady = false ∧ s.hostEmit c = { s with
        timer := 1, ctl := { s.ctl with point := .hostWait, rest := .seq (.hostTry c) :: s.ctl.rest } }) := by
  cases h : s.hostReady
  · exact .inr ⟨rfl, hostEmit_busy s c h⟩
  · exact .inl ⟨rfl, hostEmit_ready s c h⟩

theorem hookEmit_eq (h : HookEvent) :
    s.hookEmit h = ((s.raiseHook h).push [.seq (.hookDone h)]).hold .hookOp 1 := rfl

/-! ## Key events -/

theorem decodeSlot_hook (e : Byte) (hp : s.cfg.powerKeyDetect = .scan7F) (hs : eventScan e = scanSentinel) :
    s.decodeSlot e = s.hookEmit (hookOf (eventRel e)) := by
  simp [State.decodeSlot, hp, hs]

theorem decodeSlot_lookup (e : Byte) (h : s.cfg.powerKeyDetect = .never ∨ eventScan e ≠ scanSentinel) :
    s.decodeSlot e = s.lookupKey (eventRel e) (eventScan e) := by
  rcases h with h | h <;> simp [State.decodeSlot, h]

theorem lookupKey_none (rel : Bit) (scan : BitVec 7) (h : s.cfg.keymapAt scan = none) :
    s.lookupKey rel scan = { s with kmScan := scan } := by
  simp [State.lookupKey, h, State.ignoreKey, State.presentScan]

/-- When the toggle branch of a mapped case-lock key is taken (log entry 22). -/
theorem togglesOn_iff (p : Params) (rel : Bit) : p.togglesOn rel = true ↔ p.capsTransition = .any ∨ rel = 1#1 := by
  simp [Params.togglesOn]

theorem lookupKey_caps (rel : Bit) (scan : BitVec 7) (h : s.cfg.keymapAt scan = some s.cfg.keyCaps)
    (ht : s.cfg.togglesOn rel = true) :
    s.lookupKey rel scan = (s.presentScan scan).toggleKey := by
  simp [State.lookupKey, h, State.mappedKey, State.presentScan, ht]

theorem lookupKey_plain (rel : Bit) (scan : BitVec 7) (k : LogicalKey) (h : s.cfg.keymapAt scan = some k)
    (hk : k ≠ s.cfg.keyCaps ∨ s.cfg.togglesOn rel = false) :
    s.lookupKey rel scan = (s.presentScan scan).hostEmit (plainCall rel k) := by
  rcases hk with hk | hk <;> simp [State.lookupKey, h, State.mappedKey, State.presentScan, hk]

/-- Everything `decodeSlot` can do: a hook, nothing, a toggle, or a plain key (43_key_event_decoder.md R212). -/
theorem decodeSlot_cases (e : Byte) :
    (∃ h, s.decodeSlot e = s.hookEmit h)
      ∨ (s.cfg.keymapAt (eventScan e) = none ∧ s.decodeSlot e = { s with kmScan := eventScan e })
      ∨ (s.cfg.keymapAt (eventScan e) = some s.cfg.keyCaps ∧ s.cfg.togglesOn (eventRel e) = true
          ∧ s.decodeSlot e = (s.presentScan (eventScan e)).toggleKey)
      ∨ ∃ k, s.cfg.keymapAt (eventScan e) = some k ∧ (k ≠ s.cfg.keyCaps ∨ s.cfg.togglesOn (eventRel e) = false)
          ∧ s.decodeSlot e = (s.presentScan (eventScan e)).hostEmit (plainCall (eventRel e) k) := by
  by_cases h : s.cfg.powerKeyDetect = .scan7F ∧ eventScan e = scanSentinel
  · exact .inl ⟨_, decodeSlot_hook s e h.1 h.2⟩
  · have hl : s.decodeSlot e = s.lookupKey (eventRel e) (eventScan e) := by simp [State.decodeSlot, h]
    rw [hl]
    cases hk : s.cfg.keymapAt (eventScan e) with
    | none => exact .inr (.inl ⟨rfl, lookupKey_none s _ _ hk⟩)
    | some k =>
      by_cases hc : k = s.cfg.keyCaps
      · subst hc
        cases ht : s.cfg.togglesOn (eventRel e) with
        | true => exact .inr (.inr (.inl ⟨rfl, rfl, lookupKey_caps s _ _ hk ht⟩))
        | false => exact .inr (.inr (.inr ⟨_, rfl, .inr rfl, lookupKey_plain s _ _ _ hk (.inr ht)⟩))
      · exact .inr (.inr (.inr ⟨k, rfl, .inl hc, lookupKey_plain s _ _ k hk (.inl hc)⟩))

/-! ## The program -/

theorem bringUp_eq :
    s.bringUp =
      { s with
        pinMode := .driveLow, timer := s.cfg.ticks s.cfg.tResetLow,
        ctl := {
          activity := .buReset, point := .resetLow,
          rest := .seq (.play .release .resetSettle (s.cfg.ticks s.cfg.tResetSettle)) :: .seq .buRead
            :: s.ctl.rest } } := rfl

theorem buRead_eq :
    s.buRead =
      { s with
        pinMode := .driveLow, timer := s.cfg.ticks s.cfg.tAttnLow,
        txCmd := cmdByte s.cfg.deviceAddr s.cfg.cmdRead s.cfg.regBringup, bitCnt := 8,
        ctl := {
          activity := .buRead, point := .attnLow,
          rest := .seq (.play .release .syncHigh (s.cfg.ticks s.cfg.tSyncHigh))
            :: .seq (.sendBits .cmd) :: .seq .waitBegin :: .seq .buCheck :: s.ctl.rest } } := by
  rw [State.buRead, sendRead_eq]; rfl

theorem pollLoop_eq :
    s.pollLoop =
      { s with
        pinMode := .driveLow, timer := s.cfg.ticks s.cfg.tAttnLow,
        txCmd := cmdByte s.cfg.deviceAddr s.cfg.cmdRead s.cfg.regKeys, bitCnt := 8,
        ctl := {
          activity := .plRead, point := .attnLow,
          rest := .seq (.play .release .syncHigh (s.cfg.ticks s.cfg.tSyncHigh))
            :: .seq (.sendBits .cmd) :: .seq .waitBegin :: .seq .plCheck :: s.ctl.rest } } := by
  rw [State.pollLoop, sendRead_eq]; rfl

theorem plIdle_eq :
    s.plIdle =
      { s with
        timer := s.cfg.ticks s.cfg.tPollIdle,
        ctl := { activity := .plIdle, point := .idle, rest := .op .pollLoop :: s.ctl.rest } } := rfl

theorem buCheck_response (h : s.outcome = .response) : s.buCheck = (s.enter .buActivate).hostEmit .activate := by
  simp [State.buCheck, h]

theorem buCheck_retry (h : s.outcome ≠ .response) : s.buCheck = s.bringUp := by
  simp [State.buCheck, h]

/-! ## One step -/

theorem step_rst (h : s.rst = true) : step s = .next s.blockReset := by simp [step, h]

theorem step_tick (h : s.rst = false) (ht : s.timer ≠ 0) : step s = .next s.tick := by simp [step, h, ht]

theorem step_run (h : s.rst = false) (ht : s.timer = 0) (t : Task) (ts : List Task) (hr : s.ctl.rest = t :: ts) :
    step s = runTask t (s.withRest ts) := by simp [step, h, ht, hr]

/-- Everything a step can do. -/
theorem step_cases {s t : State} (h : step s = .next t) :
    (s.rst = true ∧ t = s.blockReset)
      ∨ (s.rst = false ∧ s.timer ≠ 0 ∧ t = s.tick)
      ∨ (s.rst = false ∧ s.timer = 0 ∧
          ∃ q ts, s.ctl.rest = q :: ts ∧ runTask q (s.withRest ts) = .next t) := by
  by_cases hr : s.rst = true
  · rw [step_rst s hr] at h; cases h; exact .inl ⟨hr, rfl⟩
  · have hr : s.rst = false := by simpa using hr
    by_cases ht : s.timer = 0
    · cases hq : s.ctl.rest with
      | nil => simp [step, hr, ht, hq] at h
      | cons q ts =>
        rw [step_run s hr ht q ts hq] at h
        exact .inr (.inr ⟨hr, ht, q, ts, rfl, h⟩)
    · rw [step_tick s hr ht] at h; cases h; exact .inr (.inl ⟨hr, ht, rfl⟩)

/-! ## Runs -/

theorem runN_zero : runN 0 s = .next s := rfl

theorem runN_succ {t : State} (k : Nat) (h : step s = .next t) : runN (k + 1) s = runN k t := by
  simp [runN, h]

theorem trace_succ {t : State} (k : Nat) (h : step s = .next t) :
    trace (k + 1) s = if s.isTick then s.wires :: trace k t else trace k t := by
  simp [trace, h]

theorem Runs.refl : Runs s [] s := ⟨0, rfl, rfl⟩

theorem Runs.zero {s t u : State} {ws : List Wires} (h : step s = .next t) (hn : s.isTick = false)
    (r : Runs t ws u) : Runs s ws u := by
  obtain ⟨k, hk, ht⟩ := r
  exact ⟨k + 1, by rw [runN_succ s k h, hk], by rw [trace_succ s k h, hn, ht]; rfl⟩

theorem Runs.tick {s t u : State} {ws : List Wires} (h : step s = .next t) (hn : s.isTick = true)
    (r : Runs t ws u) : Runs s (s.wires :: ws) u := by
  obtain ⟨k, hk, ht⟩ := r
  exact ⟨k + 1, by rw [runN_succ s k h, hk], by rw [trace_succ s k h, hn, ht]; rfl⟩

theorem Runs.trans {s t u : State} {ws vs : List Wires} (r : Runs s ws t) (q : Runs t vs u) :
    Runs s (ws ++ vs) u := by
  obtain ⟨k, hk, hw⟩ := r
  induction k generalizing s ws with
  | zero =>
    cases hk; subst hw; exact q
  | succ k ih =>
    unfold runN at hk
    split at hk
    · rename_i v hv
      rw [trace_succ s k hv] at hw
      have := ih hk rfl
      split at hw
      · subst hw; exact Runs.tick hv ‹_› this
      · subst hw; exact Runs.zero hv (by simpa using ‹¬ s.isTick = true›) this
    · cases hk
    · cases hk

/-- A delay in progress runs out: the wires hold for its ticks (00_scope.md R15). -/
theorem runs_delay {s : State} (n : Nat) (hn : s.timer = n) (hq : s.QuietRst n) :
    Runs s (List.replicate n s.wires) { s with timer := 0, now := s.now + n } := by
  induction n generalizing s with
  | zero => cases s; simp only at hn; subst hn; exact Runs.refl _
  | succ n ih =>
    have h0 : s.rst = false := by have := hq 0 (by omega); simpa [State.rst] using this
    have ht : s.timer ≠ 0 := by omega
    have hq' : s.tick.QuietRst n := fun d hd => by
      have := hq (d + 1) (by omega)
      simpa [Nat.add_assoc, Nat.add_comm 1 d] using this
    have r := ih (s := s.tick) (by simp [hn]) hq'
    have h1 : s.isTick = true := by simp [State.isTick, ht]
    by_cases hz : n = 0
    · subst hz
      have := Runs.tick (step_tick s h0 ht) h1 r
      simpa [State.tick, hn] using this
    · have hw : s.tick.wires = s.wires := by
        have h2 : s.tick.rst = false := by
          have := hq 1 (by omega); simpa [State.rst] using this
        simp [State.wires, h0, h2]
      rw [hw] at r
      have := Runs.tick (step_tick s h0 ht) h1 r
      simpa [State.tick, hn, List.replicate_succ, Nat.add_assoc, Nat.add_comm 1 n] using this

end Sys2Proof.Machine
end

