-- ==== Sys2Proof/Laws/Step.lean ====
section
/-! SUPPORT. The inversion of one step: everything `runTask` can answer, by the task that ran, and what every task that
answers a next state does to the continuation. -/

namespace Sys2Proof.Machine

/-- The task `q`, run in `s`, leaves the state; the reserved rows are not listed, because they leave none. -/
inductive Ran (s : State) : Task → State → Prop
  | driveLow : Ran s (.op .driveLow) (s.setPin .driveLow)
  | releaseHigh : Ran s (.op .releaseHigh) (s.setPin .release)
  | sense : Ran s (.op .sense) (s.senseLine)
  | packIndicators : Ran s (.op .packIndicators) (s.pack)
  | bit0 : Ran s (.op .bit0) (s.cell .bitLow .bitHigh 0#1)
  | bit1 : Ran s (.op .bit1) (s.cell .bitLow .bitHigh 1#1)
  | stop : Ran s (.op .stop) (s.cell .cstopLow .cstopHigh s.cfg.stopBit)
  | start : Ran s (.op .start) (s.cell .dstartLow .dstartHigh s.cfg.startBit)
  | emitBit b : Ran s (.op (.emitBit b)) (s.cell .bitLow .bitHigh b)
  | attnSync : Ran s (.op .attnSync) (s.attention)
  | emitAttention : Ran s (.op .emitAttention) (s.attention)
  | reset : Ran s (.op .reset) (s.resetPulse)
  | emitResetPulse : Ran s (.op .emitResetPulse) (s.resetPulse)
  | gap : Ran s (.op .gap) (s.gapHigh)
  | sampleBit : Ran s (.op .sampleBit) (s.rxLow)
  | emitCommand a code r (h : s.cfg.isCommandCode code = true) : Ran s (.op (.emitCommand a code r)) (s.command a code r)
  | write a r d : Ran s (.op (.write a r d)) (s.sendWrite a r d)
  | sendWrite a r d : Ran s (.op (.sendWrite a r d)) (s.sendWrite a r d)
  | ledWord sc ca nu : Ran s (.op (.ledWord sc ca nu)) (s.sendWrite s.cfg.deviceAddr s.cfg.regLeds (ledWordOf sc ca nu))
  | writeLeds : Ran s (.op .writeLeds) (s.writeIndicators)
  | writeIndicators : Ran s (.op .writeIndicators) (s.writeIndicators)
  | read a r : Ran s (.op (.read a r)) (s.sendRead a r)
  | sendReadRequest a r : Ran s (.op (.sendReadRequest a r)) (s.sendRead a r)
  | readBringup : Ran s (.op .readBringup) (s.sendRead s.cfg.deviceAddr s.cfg.regBringup)
  | readKeys : Ran s (.op .readKeys) (s.sendRead s.cfg.deviceAddr s.cfg.regKeys)
  | press k : Ran s (.op (.press k)) (s.hostEmit (.press k))
  | release k : Ran s (.op (.release k)) (s.hostEmit (.release k))
  | writeAndAutoRelease k : Ran s (.op (.writeAndAutoRelease k)) (s.hostEmit (.writeAndAutoRelease k))
  | activate : Ran s (.op .activate) (s.hostEmit .activate)
  | hostEmit c : Ran s (.op (.hostEmit c)) (s.hostEmit c)
  | powerKeyPress : Ran s (.op .powerKeyPress) (s.hookEmit .powerKeyPress)
  | powerKeyRelease : Ran s (.op .powerKeyRelease) (s.hookEmit .powerKeyRelease)
  | hookEmit h : Ran s (.op (.hookEmit h)) (s.hookEmit h)
  | evPress scan : Ran s (.op (.evPress scan)) (s.decodeSlot (eventByte 0#1 scan))
  | evRelease scan : Ran s (.op (.evRelease scan)) (s.decodeSlot (eventByte 1#1 scan))
  | evSentinel rel : Ran s (.op (.evSentinel rel)) (s.decodeSlot (eventByte rel scanSentinel))
  | evCaps rel : Ran s (.op (.evCaps rel)) (s.decodeSlot (eventByte rel scanCaps))
  | evUnmapped rel scan : Ran s (.op (.evUnmapped rel scan)) (s.decodeSlot (eventByte rel scan))
  | decodeSlot e : Ran s (.op (.decodeSlot e)) (s.decodeSlot e)
  | keyWord e f : Ran s (.op (.keyWord e f)) (s.decodeWord (keyWordOf e f))
  | decodeWord w : Ran s (.op (.decodeWord w)) (s.decodeWord w)
  | main : Ran s (.op .main) (s.main)
  | bringUp : Ran s (.op .bringUp) (s.bringUp)
  | pollLoop : Ran s (.op .pollLoop) (s.pollLoop)
  | seqPlay m p n : Ran s (.seq (.play m p n)) (s.play m p n)
  | seqSendBits f : Ran s (.seq (.sendBits f)) (s.sendBits f)
  | seqNextBit f : Ran s (.seq (.nextBit f)) (s.countBit.sendBits f)
  | seqWriteGap : Ran s (.seq .writeGap) (s.writeGap)
  | seqWriteData : Ran s (.seq .writeData) (s.writeData)
  | seqWaitBegin : Ran s (.seq .waitBegin) (s.waitBegin)
  | seqWaitNext : Ran s (.seq .waitNext) (s.waitNext)
  | seqRxLow : Ran s (.seq .rxLow) (s.rxLow)
  | seqRxHigh : Ran s (.seq .rxHigh) (s.rxHigh)
  | seqRxTake : Ran s (.seq .rxTake) (s.senseLine)
  | seqRxBit : Ran s (.seq .rxBit) (s.rxBit)
  | seqRxShift : Ran s (.seq .rxShift) (s.rxShift)
  | seqBuRead : Ran s (.seq .buRead) (s.buRead)
  | seqBuCheck : Ran s (.seq .buCheck) (s.buCheck)
  | seqPlIdle : Ran s (.seq .plIdle) (s.plIdle)
  | seqDecodeSecond e : Ran s (.seq (.decodeSecond e)) (s.decodeSecond e)
  | seqHostTry c : Ran s (.seq (.hostTry c)) (s.hostEmit c)
  | seqHostDone : Ran s (.seq .hostDone) (s.dropHost)
  | seqHookDone h : Ran s (.seq (.hookDone h)) (s.dropHook h)
  | seqPlCheckAnswered w (ho : s.outcome = .response) (hw : s.rxWord = some w) :
      Ran s (.seq .plCheck) ((s.push [.seq .plIdle]).decodeWord w)
  | seqPlCheckSilent (ho : s.outcome ≠ .response) : Ran s (.seq .plCheck) s.plIdle

/-- Everything an operation can answer. -/
theorem ran_op {i : Instr} {s t : State} (h : exec i s = .next t) : Ran s (.op i) t := by
  cases i
  case emitCommand a code r =>
    change (if s.cfg.isCommandCode code then _ else _) = _ at h
    split at h
    · cases h; exact .emitCommand a code r ‹_›
    · cases h
  case reservedCode00 => cases h
  case reservedCode01 => cases h
  case driveLow => cases h; exact .driveLow
  case releaseHigh => cases h; exact .releaseHigh
  case sense => cases h; exact .sense
  case packIndicators => cases h; exact .packIndicators
  case bit0 => cases h; exact .bit0
  case bit1 => cases h; exact .bit1
  case stop => cases h; exact .stop
  case start => cases h; exact .start
  case emitBit => cases h; exact .emitBit _
  case attnSync => cases h; exact .attnSync
  case emitAttention => cases h; exact .emitAttention
  case reset => cases h; exact .reset
  case emitResetPulse => cases h; exact .emitResetPulse
  case gap => cases h; exact .gap
  case sampleBit => cases h; exact .sampleBit
  case write => cases h; exact .write _ _ _
  case sendWrite => cases h; exact .sendWrite _ _ _
  case ledWord => cases h; exact .ledWord _ _ _
  case writeLeds => cases h; exact .writeLeds
  case writeIndicators => cases h; exact .writeIndicators
  case read => cases h; exact .read _ _
  case sendReadRequest => cases h; exact .sendReadRequest _ _
  case readBringup => cases h; exact .readBringup
  case readKeys => cases h; exact .readKeys
  case press => cases h; exact .press _
  case release => cases h; exact .release _
  case writeAndAutoRelease => cases h; exact .writeAndAutoRelease _
  case activate => cases h; exact .activate
  case hostEmit => cases h; exact .hostEmit _
  case powerKeyPress => cases h; exact .powerKeyPress
  case powerKeyRelease => cases h; exact .powerKeyRelease
  case hookEmit => cases h; exact .hookEmit _
  case evPress => cases h; exact .evPress _
  case evRelease => cases h; exact .evRelease _
  case evSentinel => cases h; exact .evSentinel _
  case evCaps => cases h; exact .evCaps _
  case evUnmapped => cases h; exact .evUnmapped _ _
  case decodeSlot => cases h; exact .decodeSlot _
  case keyWord => cases h; exact .keyWord _ _
  case decodeWord => cases h; exact .decodeWord _
  case main => cases h; exact .main
  case bringUp => cases h; exact .bringUp
  case pollLoop => cases h; exact .pollLoop

/-- Everything a statement can answer. -/
theorem ran_seq {q : SeqTask} {s t : State} (h : runSeq q s = .next t) : Ran s (.seq q) t := by
  cases q
  case plCheck =>
    change runPlCheck s = _ at h
    unfold runPlCheck at h
    split at h
    · split at h
      · cases h; exact .seqPlCheckAnswered _ ‹_› ‹_›
      · cases h
    · cases h; exact .seqPlCheckSilent ‹_›
  case play => cases h; exact .seqPlay _ _ _
  case sendBits => cases h; exact .seqSendBits _
  case nextBit => cases h; exact .seqNextBit _
  case writeGap => cases h; exact .seqWriteGap
  case writeData => cases h; exact .seqWriteData
  case waitBegin => cases h; exact .seqWaitBegin
  case waitNext => cases h; exact .seqWaitNext
  case rxLow => cases h; exact .seqRxLow
  case rxHigh => cases h; exact .seqRxHigh
  case rxTake => cases h; exact .seqRxTake
  case rxBit => cases h; exact .seqRxBit
  case rxShift => cases h; exact .seqRxShift
  case buRead => cases h; exact .seqBuRead
  case buCheck => cases h; exact .seqBuCheck
  case plIdle => cases h; exact .seqPlIdle
  case decodeSecond => cases h; exact .seqDecodeSecond _
  case hostTry => cases h; exact .seqHostTry _
  case hostDone => cases h; exact .seqHostDone
  case hookDone => cases h; exact .seqHookDone _

/-- Everything a task can answer. -/
theorem ran_task {q : Task} {s t : State} (h : runTask q s = .next t) : Ran s q t := by
  cases q with
  | op i => exact ran_op h
  | seq q => exact ran_seq h

/-- Everything a step can do. -/
theorem step_ran {s t : State} (h : step s = .next t) :
    (s.rst = true ∧ t = s.blockReset)
      ∨ (s.rst = false ∧ s.timer ≠ 0 ∧ t = s.tick)
      ∨ (s.rst = false ∧ s.timer = 0 ∧ ∃ q ts, s.ctl.rest = q :: ts ∧ Ran (s.withRest ts) q t) := by
  rcases step_cases h with h | h | ⟨hr, ht, q, ts, hq, hrun⟩
  · exact .inl h
  · exact .inr (.inl h)
  · exact .inr (.inr ⟨hr, ht, q, ts, hq, ran_task hrun⟩)

end Sys2Proof.Machine
end

