-- ==== Sys2Proof/Laws/Runs.lean ====
section
/-! SUPPORT. Composing runs: one task, one delay, one symbol; the wires of a waveform; bits most significant first. -/

namespace Sys2Proof.Machine

/-! ## Ticks without reset -/

theorem State.QuietRst.mono {s : State} {m n : Nat} (h : s.QuietRst n) (hm : m ≤ n) : s.QuietRst m :=
  fun d hd => h d (hd.trans hm)

theorem State.QuietRst.now {s : State} {n : Nat} (h : s.QuietRst n) : s.rst = false := h 0 (Nat.zero_le _)

theorem State.QuietRst.later {s t : State} {m n : Nat} (h : s.QuietRst n) (he : t.env = s.env) (k : Nat)
    (hn : t.now = s.now + k) (hm : k + m ≤ n) : t.QuietRst m := fun d hd => by
  have := h (k + d) (by omega)
  rw [he, hn]; simpa [Nat.add_assoc] using this

/-! ## The line -/

theorem line_high {s : State} (h : s.pinMode = .release) (hp : s.env.periphLow s.now = false) : s.line = 1#1 := by
  simp [State.line, Env.line, h, hp]

theorem line_low {s : State} (hp : s.env.periphLow s.now = true) : s.line = 0#1 := by
  simp [State.line, Env.line, hp]

/-! ## Wires -/

/-- The wires of a state with the pin in a mode. -/
def State.wiresAt (s : State) (m : PinMode) : Wires :=
  { pin := m, host := s.hostPort, hookPress := s.hookPress, hookRelease := s.hookRelease }

/-- The wires of a state during a waveform. -/
def State.waveWires (s : State) (w : List Segment) : List Wires := (expand w).map s.wiresAt

theorem wires_eq_wiresAt {s : State} (h : s.rst = false) : s.wires = s.wiresAt s.pinMode := by
  simp [State.wires, h]; rfl

theorem expand_append (v w : List Segment) : expand (v ++ w) = expand v ++ expand w := by simp [expand]

theorem waveTicks_append (v w : List Segment) : waveTicks (v ++ w) = waveTicks v + waveTicks w := by
  simp [waveTicks]

theorem waveWires_nil (s : State) : s.waveWires [] = [] := rfl

theorem waveWires_cons (s : State) (m : PinMode) (n : Nat) (w : List Segment) :
    s.waveWires ((m, n) :: w) = List.replicate n (s.wiresAt m) ++ s.waveWires w := by
  simp [State.waveWires, expand]

theorem waveWires_append (s : State) (v w : List Segment) :
    s.waveWires (v ++ w) = s.waveWires v ++ s.waveWires w := by
  simp [State.waveWires, expand]

theorem waveWires_pin (s : State) (w : List Segment) : (s.waveWires w).map Wires.pin = expand w := by
  simp only [State.waveWires, List.map_map]
  have : Wires.pin ∘ s.wiresAt = id := rfl
  rw [this]; simp

/-- During a waveform the collaborators' wires keep their values. -/
theorem waveWires_ports (s : State) (w : List Segment) :
    ∀ x ∈ s.waveWires w, x.host = s.hostPort ∧ x.hookPress = s.hookPress ∧ x.hookRelease = s.hookRelease := by
  intro x hx
  simp only [State.waveWires, List.mem_map] at hx
  obtain ⟨m, _, rfl⟩ := hx
  exact ⟨rfl, rfl, rfl⟩

theorem cellWave_ticks (p : Params) (b : Bit) : waveTicks (cellWave p b) = p.cellTicks b := by
  simp [waveTicks, cellWave, Params.cellTicks]

theorem bitsWave_cons (p : Params) (b : Bit) (bs : List Bit) :
    bitsWave p (b :: bs) = cellWave p b ++ bitsWave p bs := by
  simp [bitsWave]

theorem bitsWave_append (p : Params) (bs cs : List Bit) :
    bitsWave p (bs ++ cs) = bitsWave p bs ++ bitsWave p cs := by
  simp [bitsWave]

/-! ## Running -/

/-- A task runs in zero time, and the run goes on from the state it leaves. -/
theorem runs_task {s t u : State} {ws : List Wires} (hr : s.rst = false) (ht : s.timer = 0) (q : Task)
    (ts : List Task) (hq : s.ctl.rest = q :: ts) (h : runTask q (s.withRest ts) = .next t) (r : Runs t ws u) :
    Runs s ws u :=
  Runs.zero (s := s) (by rw [step_run s hr ht q ts hq]; exact h) (by simp [State.isTick, hr, ht]) r

/-- A delay, with the wires named by the pin. -/
theorem runs_hold {s : State} (n : Nat) (hn : s.timer = n) (hq : s.QuietRst n) :
    Runs s (List.replicate n (s.wiresAt s.pinMode)) { s with timer := 0, now := s.now + n } := by
  have := runs_delay n hn hq
  rwa [wires_eq_wiresAt hq.now] at this

/-- A delay of one tick, then a task. -/
theorem runs_tick_task {s t u : State} {q : Task} {ts : List Task} {ws : List Wires} {w : Wires}
    (ht : s.timer = 1) (hq : s.QuietRst 1) (hr : s.ctl.rest = q :: ts)
    (h : runTask q { s with timer := 0, now := s.now + 1, ctl := { s.ctl with rest := ts } } = .next t)
    (r : Runs t ws u) (hw : s.wiresAt s.pinMode = w) : Runs s (w :: ws) u := by
  subst hw
  exact Runs.trans (ws := [s.wiresAt s.pinMode]) (runs_hold 1 ht hq) (runs_task (hq 1 (Nat.le_refl _)) rfl q ts hr h r)

/-- A symbol, from its first tick to its return: its two phases and nothing else. -/
theorem runs_symbol (s : State) (pL : Point) (nL : Nat) (pH : Point) (nH : Nat) (hq : s.QuietRst (nL + nH)) :
    Runs (s.symbol pL nL pH nH) (s.waveWires [(.driveLow, nL), (.release, nH)])
      { s with pinMode := .release, timer := 0, now := s.now + (nL + nH), ctl := { s.ctl with point := pH } } := by
  rw [waveWires_cons, waveWires_cons, waveWires_nil, List.append_nil, symbol_eq]
  refine Runs.trans (runs_hold (s := { s with
    pinMode := .driveLow, timer := nL,
    ctl := { s.ctl with point := pL, rest := .seq (.play .release pH nH) :: s.ctl.rest } }) nL rfl
    (hq.mono (by omega))) ?_
  refine runs_task (hq nL (by omega)) rfl _ _ rfl rfl ?_
  have := runs_hold (s := { s with
    pinMode := .release, timer := nH, now := s.now + nL, ctl := { s.ctl with point := pH } }) nH rfl
    (hq.later rfl nL rfl (by omega))
  simp only [Nat.add_assoc] at this
  exact this

/-! ## Bits -/

theorem msbFirst_length (n : Nat) : ∀ v : BitVec n, (msbFirst n v).length = n := by
  induction n with
  | zero => intro v; rfl
  | succ n ih => intro v; simp [msbFirst, ih]

/-- The bits of a word, most significant first, by their indexes. -/
theorem msbFirst_eq_map (n : Nat) (f : Nat → Bit) (w : BitVec n) (h : ∀ i, i < n → f i = w.extractLsb' i 1) :
    (List.range n).reverse.map f = msbFirst n w := by
  induction n with
  | zero => rfl
  | succ n ih =>
    rw [List.range_succ, List.reverse_append]
    simp only [List.reverse_singleton, List.singleton_append, List.map_cons, msbFirst]
    congr 1
    · exact h n (by omega)
    · refine ih _ fun i hi => ?_
      rw [h i (by omega)]
      apply BitVec.eq_of_getLsbD_eq
      intro j hj
      have : j = 0 := by omega
      subst this
      simp; omega

end Sys2Proof.Machine
end

