-- ==== Sys2Proof/Tests/Slice0.lean ====
section
/-! SUPPORT. The model's own tests (expected values from the rules and vectors of spec/), and a witness for the hypotheses
of every statement that has some. -/

open Sys2Proof Sys2Proof.Machine

namespace Sys2Proof.Tests

/-! ## Helpers -/

/-- The nominal record with an idle delay of 5 microseconds. -/
def nominal5 : Params := { Params.nominal with tPollIdle := 5 }

/-- A state after reset with nothing to run, a silent line and a ready host for 10^7 ticks. -/
def idle0 : State :=
  { State.reset with
    ctl := { State.reset.ctl with rest := [] }
    cfg := nominal5
    env := { known := 10000000, lows := [], busy := [], rst := [] } }

/-- One view of a next state. -/
def look {α : Type} (f : State → α) : Host.Outcome State Fault Refusal → Option α
  | .next s => some (f s)
  | .fault _ => none
  | .refused _ => none

/-- The reason of a refusal. -/
def reason : Host.Outcome State Fault Refusal → Option Refusal
  | .next _ => none
  | .fault _ => none
  | .refused r => some r

/-- Pin, delay and control point after a step. -/
def phase (s : State) : PinMode × Nat × Point := (s.pinMode, s.timer, s.ctl.point)

/-! ## Well-formedness: each check refuses an ill-formed term -/

theorem test_wf_read_of_bringup_is_its_own_row : WellFormed (.read 2#4 3#2) = false := by decide
theorem test_wf_read_of_keys_is_its_own_row : WellFormed (.read 2#4 0#2) = false := by decide
theorem test_wf_read_elsewhere : WellFormed (.read 2#4 1#2) = true := by decide
theorem test_wf_press_of_sentinel : WellFormed (.evPress 0x7F#7) = false := by decide
theorem test_wf_press_of_caps : WellFormed (.evPress 0x39#7) = false := by decide
theorem test_wf_release_of_caps : WellFormed (.evRelease 0x39#7) = false := by decide
theorem test_wf_release_of_sentinel : WellFormed (.evRelease 0x7F#7) = false := by decide
theorem test_wf_unmapped_sentinel : WellFormed (.evUnmapped 1#1 0x7F#7) = false := by decide
theorem test_wf_emit_reserved_code_00 : WellFormed (.emitCommand 2#4 0b00#2 0#2) = false := by decide
theorem test_wf_emit_reserved_code_01 : WellFormed (.emitCommand 2#4 0b01#2 0#2) = false := by decide
theorem test_wf_emit_write_code : WellFormed (.emitCommand 2#4 0b10#2 0#2) = true := by decide

/-! ## Decoding: words written out from the encodings of 30_encoding.md and the vectors V-CB, V-PK -/

theorem test_decode_write : decode (.command [0b00001000#8, 0x00#8, 0x01#8]) = .ok (.write 0#4 0#2 1#16) := by decide
theorem test_decode_write_vcb6 : decode (.command [0xFB#8, 0xA5#8, 0xC3#8]) = .ok (.write 15#4 3#2 0xA5C3#16) := by decide
theorem test_decode_read_vcb7 : decode (.command [0b10001101#8]) = .ok (.read 8#4 1#2) := by decide
theorem test_decode_reserved_00 : decode (.command [0b10010010#8]) = .ok (.reservedCode00 9#4 2#2) := by decide
theorem test_decode_reserved_01 : decode (.command [0b10010111#8]) = .ok (.reservedCode01 9#4 3#2) := by decide
theorem test_decode_read_bringup_vcb1 : decode (.command [0b00101111#8]) = .ok .readBringup := by decide
theorem test_decode_read_keys_vcb2 : decode (.command [0b00101100#8]) = .ok .readKeys := by decide
theorem test_decode_write_leds_vcb3 : decode (.command [0b00101010#8]) = .ok .writeLeds := by decide
theorem test_decode_ev_press : decode (.event [0b00001100#8] true) = .ok (.evPress 12#7) := by decide
theorem test_decode_ev_release : decode (.event [0b10001101#8] true) = .ok (.evRelease 13#7) := by decide
theorem test_decode_ev_sentinel : decode (.event [0b11111111#8] false) = .ok (.evSentinel 1#1) := by decide
theorem test_decode_ev_caps : decode (.event [0b10111001#8] true) = .ok (.evCaps 1#1) := by decide
theorem test_decode_ev_unmapped : decode (.event [0b00001010#8] false) = .ok (.evUnmapped 0#1 10#7) := by decide
theorem test_decode_key_word : decode (.response [0x0C#8, 0x8D#8]) = .ok (.keyWord 0x0C#8 0x8D#8) := by decide
theorem test_decode_led_word : decode (.indicator [0xFF#8, 0b11111101#8]) = .ok (.ledWord 1#1 0#1 1#1) := by decide
theorem test_decode_bit0 : decode (.symbol .cell [(.driveLow, 65), (.release, 35)]) = .ok .bit0 := by decide
theorem test_decode_bit1 : decode (.symbol .cell [(.driveLow, 35), (.release, 65)]) = .ok .bit1 := by decide
theorem test_decode_attn : decode (.symbol .preamble [(.driveLow, 800), (.release, 70)]) = .ok .attnSync := by decide
theorem test_decode_reset : decode (.symbol .busReset [(.driveLow, 3000), (.release, 1000000)]) = .ok .reset := by decide
theorem test_decode_data_stop : decode (.symbol .dataStop [(.driveLow, 65), (.release, 35)]) = .ok .stop := by decide
theorem test_decode_stop : decode (.symbol .commandStop [(.driveLow, 65), (.release, 35)]) = .ok .stop := by decide
theorem test_decode_start : decode (.symbol .dataStart [(.driveLow, 35), (.release, 65)]) = .ok .start := by decide
theorem test_decode_gap : decode (.symbol .frameGap [(.release, 200)]) = .ok .gap := by decide
theorem test_decode_press : decode (.host 0b00#2 (some .enter)) = .ok (.press .enter) := by decide
theorem test_decode_release : decode (.host 0b01#2 (some .f1)) = .ok (.release .f1) := by decide
theorem test_decode_auto : decode (.host 0b10#2 (some .caps)) = .ok (.writeAndAutoRelease .caps) := by decide
theorem test_decode_activate : decode (.host 0b11#2 none) = .ok .activate := by decide
theorem test_decode_hook_press : decode (.strobe true false) = .ok .powerKeyPress := by decide
theorem test_decode_hook_release : decode (.strobe false true) = .ok .powerKeyRelease := by decide

theorem test_decode_refuses_by_name :
    decode (.command []) = .error .wrongLength ∧ decode (.command [0x08#8]) = .error .writeWithoutData
      ∧ decode (.event [] true) = .error .wrongLength ∧ decode (.response [0x0C#8]) = .error .wrongLength
      ∧ decode (.indicator [0x7F#8, 0xFF#8]) = .error .indicatorBitsClear
      ∧ decode (.host 3#2 (some .enter)) = .error .hostKey ∧ decode (.host 0#2 none) = .error .hostKey
      ∧ decode (.symbol .preamble [(.driveLow, 65), (.release, 35)]) = .error .noSymbol
      ∧ decode (.strobe true true) = .error .noStrobe := by decide

theorem test_table_words :
    decodeTableWord 8 0x2F = some .readBringup ∧ decodeTableWord 8 0x2A = some .writeLeds
      ∧ decodeTableWord 8 0x21 = some (.reservedCode00 2#4 1#2) ∧ decodeTableWord 8 0xB9 = some (.evCaps 1#1)
      ∧ decodeTableWord 8 0x7F = some (.evSentinel 0#1) ∧ decodeTableWord 8 0x08 = some (.write 0#4 0#2 0#16)
      ∧ decodeTableWord 2 3 = some .activate ∧ decodeTableWord 16 0x0C8D = some (.keyWord 0x0C#8 0x8D#8)
      ∧ decodeTableWord 16 0xFFFD = some (.ledWord 1#1 0#1 1#1) ∧ decodeTableWord 24 0 = none := by decide

/-! ## One instruction, one step -/

-- 95_test_vectors.md V-SIG1, V-SIG2, V-SIG3, V-SIG4
theorem test_bit0 : look phase (exec .bit0 idle0) = some (.driveLow, 65, .bitLow) := by decide
theorem test_bit1 : look phase (exec .bit1 idle0) = some (.driveLow, 35, .bitLow) := by decide
theorem test_emitBit : look (fun s => s.ctl.rest) (exec (.emitBit 1#1) idle0)
    = some [.seq (.play .release .bitHigh 65)] := by decide
theorem test_attnSync : look (fun s => (phase s, s.ctl.rest)) (exec .attnSync idle0)
    = some ((.driveLow, 800, .attnLow), [.seq (.play .release .syncHigh 70)]) := by decide
theorem test_emitAttention : look phase (exec .emitAttention idle0) = some (.driveLow, 800, .attnLow) := by decide
theorem test_reset : look (fun s => (phase s, s.ctl.rest)) (exec .reset idle0)
    = some ((.driveLow, 3000, .resetLow), [.seq (.play .release .resetSettle 1000000)]) := by decide
theorem test_emitResetPulse_keeps_indicators :
    look (fun s => (s.indCaps, s.hostActive)) (exec .emitResetPulse { idle0 with indCaps := true, hostActive := true })
      = some (true, true) := by decide
theorem test_stop : look phase (exec .stop idle0) = some (.driveLow, 65, .cstopLow) := by decide
theorem test_start : look phase (exec .start idle0) = some (.driveLow, 35, .dstartLow) := by decide
theorem test_gap : look phase (exec .gap idle0) = some (.release, 200, .gap) := by decide
-- V-SIG5 to V-SIG8
theorem test_driveLow : look phase (exec .driveLow idle0) = some (.driveLow, 0, .resetLow) := by decide
theorem test_releaseHigh : look (fun s => s.pinMode) (exec .releaseHigh { idle0 with pinMode := .driveLow }) = some .release := by
  decide
theorem test_sense_held_low : look (fun s => s.retBit) (exec .sense { idle0 with env := { idle0.env with lows := [(0, 0)] } })
    = some 0#1 := by decide
theorem test_sense_high : look (fun s => s.retBit) (exec .sense idle0) = some 1#1 := by decide
-- 40_bit_signaling.md R137
theorem test_sampleBit_waits_for_low : look phase (exec .sampleBit { idle0 with bitCnt := 16 })
    = some (.release, 1, .rxWaitLow 15) := by decide
theorem test_sampleBit_waits_for_high :
    look phase (exec .sampleBit { idle0 with bitCnt := 1, env := { idle0.env with lows := [(0, 34)] } })
      = some (.release, 1, .rxWaitHigh 0) := by decide
-- V-CB1 to V-CB7: the command register
theorem test_emitCommand : look (fun s => (s.txCmd, s.bitCnt)) (exec (.emitCommand 8#4 0b11#2 1#2) idle0)
    = some (0x8D#8, 8) := by decide
theorem test_emitCommand_reserved : reason (exec (.emitCommand 2#4 0b01#2 0#2) idle0) = some (.reservedCode 0b01#2) := by
  decide
theorem test_reservedCode00 : reason (exec (.reservedCode00 2#4 0#2) idle0) = some (.reservedCode 0b00#2) := by decide
theorem test_reservedCode01 : reason (exec (.reservedCode01 2#4 0#2) idle0) = some (.reservedCode 0b01#2) := by decide
theorem test_write : look (fun s => (s.txCmd, s.txData)) (exec (.write 15#4 3#2 0xA5C3#16) idle0)
    = some (0xFB#8, 0xA5C3#16) := by decide
theorem test_sendWrite : look (fun s => (s.txCmd, s.txData)) (exec (.sendWrite 0#4 0#2 0#16) { idle0 with txData := 7#16 })
    = some (0x08#8, 0#16) := by decide
theorem test_read : look (fun s => s.txCmd) (exec (.read 15#4 3#2) idle0) = some 0xFF#8 := by decide
theorem test_sendReadRequest : look (fun s => (s.txCmd, s.outcome)) (exec (.sendReadRequest 2#4 0#2)
    { idle0 with outcome := .response }) = some (0x2C#8, .response) := by decide
theorem test_readBringup : look (fun s => s.txCmd) (exec .readBringup idle0) = some 0x2F#8 := by decide
theorem test_readKeys : look (fun s => s.txCmd) (exec .readKeys idle0) = some 0x2C#8 := by decide
-- V-PK0 to V-PK3, V-WR1
theorem test_writeLeds : look (fun s => (s.txCmd, s.txData)) (exec .writeLeds { idle0 with indCaps := true })
    = some (0x2A#8, 0xFFFD#16) := by decide
theorem test_writeIndicators : look (fun s => s.txData) (exec .writeIndicators { idle0 with indNum := true })
    = some 0xFFFE#16 := by decide
theorem test_ledWord : look (fun s => (s.txCmd, s.txData)) (exec (.ledWord 0#1 1#1 0#1) idle0)
    = some (0x2A#8, 0xFFFA#16) := by decide
theorem test_packIndicators : look (fun s => (s.retWord, s.timer)) (exec .packIndicators { idle0 with indNum := true, indCaps := true })
    = some (0xFFFC#16, 0) := by decide
-- V-DEC1, V-DEC9, V-DEC2, V-DEC3, V-DEC11
theorem test_evPress : look (fun s => s.hostPort) (exec (.evPress 0x0C#7) idle0) = some (some (.press (.char 'q'))) := by decide
theorem test_evRelease : look (fun s => s.hostPort) (exec (.evRelease 0x0D#7) idle0) = some (some (.release (.char 'w'))) := by
  decide
theorem test_evCaps_press : look (fun s => (s.indCaps, s.hostPort)) (exec (.evCaps 0#1) idle0)
    = some (true, some (.writeAndAutoRelease .caps)) := by decide
-- 93_implementation_defined.md U20, in the setting that follows it
theorem test_evCaps_press_releaseOnly : look (fun s => (s.indCaps, s.hostPort))
    (exec (.evCaps 0#1) { idle0 with cfg := { nominal5 with capsTransition := .releaseOnly } })
      = some (false, some (.press .caps)) := by decide
theorem test_evCaps_release : look (fun s => (s.indCaps, s.ctl.rest)) (exec (.evCaps 1#1) { idle0 with indCaps := true })
    = some (false, [.seq .hostDone, .op .writeIndicators]) := by decide
theorem test_evSentinel_never : look (fun s => (s.timer, s.hookRelease)) (exec (.evSentinel 1#1) idle0) = some (0, false) := by
  decide
theorem test_evSentinel_scan7F : look (fun s => (s.hookPress, s.hookRelease))
    (exec (.evSentinel 1#1) { idle0 with cfg := { nominal5 with powerKeyDetect := .scan7F } }) = some (false, true) := by decide
-- V-DEC13
theorem test_evUnmapped : look (fun s => (s.timer, s.hostPort, s.kmScan))
    (exec (.evUnmapped 1#1 0x0A#7) { idle0 with cfg := { nominal5 with keymap := [(0x0A#7, none)] } })
      = some (0, none, 0x0A#7) := by decide
theorem test_keyWord : look (fun s => (s.hostPort, s.slotIdx, s.ctl.rest)) (exec (.keyWord 0xA4#8 0xFA#8) idle0)
    = some (some (.release .enter), 0, [.seq .hostDone, .seq (.decodeSecond 0xFA#8)]) := by decide
theorem test_decodeWord : look (fun s => s.hostPort) (exec (.decodeWord 0x247A#16) idle0) = some (some (.press .enter)) := by decide
theorem test_decodeSlot : look (fun s => s.hostPort) (exec (.decodeSlot 0x00#8) idle0) = some (some (.press (.char 'a'))) := by
  decide
-- 43_key_event_decoder.md R220, R222
theorem test_press_busy_host : look phase (exec (.press .enter) { idle0 with env := { idle0.env with busy := [(0, 9)] } })
    = some (.release, 1, .hostWait) := by decide
theorem test_release : look (fun s => (s.hostOp, s.hostKey)) (exec (.release .f1) idle0) = some (some 1#2, some .f1) := by decide
theorem test_writeAndAutoRelease : look (fun s => s.hostOp) (exec (.writeAndAutoRelease .caps) idle0) = some (some 2#2) := by
  decide
theorem test_activate : look (fun s => (s.hostOp, s.hostKey, s.hostActive)) (exec .activate idle0)
    = some (some 3#2, none, true) := by decide
theorem test_hostEmit : look (fun s => (s.hostValid, s.hostActive)) (exec (.hostEmit (.press .enter)) idle0)
    = some (true, false) := by decide
theorem test_powerKeyPress : look (fun s => (s.hookPress, s.hookRelease, s.timer)) (exec .powerKeyPress idle0)
    = some (true, false, 1) := by decide
theorem test_powerKeyRelease : look (fun s => (s.hookPress, s.hookRelease)) (exec .powerKeyRelease idle0)
    = some (false, true) := by decide
theorem test_hookEmit : look (fun s => s.hookPress) (exec (.hookEmit .powerKeyPress) idle0) = some true := by decide
-- 42_bring_up_and_poll.md R190, R191, R196
theorem test_main : look (fun s => (phase s, s.ctl.rest)) (exec .main idle0)
    = some ((.driveLow, 3000, .resetLow),
        [.seq (.play .release .resetSettle 1000000), .seq .buRead, .op .pollLoop]) := by decide
theorem test_bringUp : look (fun s => s.ctl.activity) (exec .bringUp idle0) = some .buReset := by decide
theorem test_pollLoop : look (fun s => (s.ctl.activity, s.txCmd)) (exec .pollLoop idle0) = some (.plRead, 0x2C#8) := by decide

/-! ## Steps between operations -/

theorem test_step_tick : look (fun s => (s.timer, s.now)) (step { idle0 with timer := 3 }) = some (2, 1) := by decide
theorem test_step_rst_dominates : look (fun s => (s.timer, s.indCaps, s.pinMode))
    (step { idle0 with timer := 3, indCaps := true, pinMode := .driveLow, env := { idle0.env with rst := [(0, 0)] } })
      = some (0, false, .release) := by decide
theorem test_step_program_ended : reason (step idle0) = some .programEnded := by decide
-- 41_command_protocol.md R166: the last poll is at wait_cnt 1; at 0 the read times out
theorem test_wait_last_poll : look (fun s => (s.outcome, s.timer))
    (step { idle0 with waitCnt := 2, ctl := { idle0.ctl with rest := [.seq .waitNext] } }) = some (.none, 1) := by decide
theorem test_wait_timeout : look (fun s => (s.outcome, s.timer))
    (step { idle0 with waitCnt := 1, ctl := { idle0.ctl with rest := [.seq .waitNext] } }) = some (.timeout, 0) := by decide
-- 10_state.md R27: the shift-in; 41 R166: after the 16th bit the response is complete
theorem test_rx_shift : look (fun s => (s.rxWord, s.outcome))
    (step { idle0 with rxWord := some 0x8646#16, retBit := 1#1, bitCnt := 1, ctl := { idle0.ctl with rest := [.seq .rxShift] } })
      = some (some 0x0C8D#16, .response) := by decide
-- the highest bit of a field goes first (20_memory.md R68)
theorem test_send_first_data_bit : look (fun s => (s.timer, s.ctl.point))
    (step { idle0 with txData := 0x8000#16, bitCnt := 16, ctl := { idle0.ctl with rest := [.seq (.sendBits .data)] } })
      = some (35, .dataLow 15) := by decide
theorem test_bring_up_retries : look (fun s => (s.ctl.activity, s.timer))
    (step { idle0 with outcome := .timeout, ctl := { idle0.ctl with rest := [.seq .buCheck] } }) = some (.buReset, 3000) := by
  decide
theorem test_poll_idles_on_timeout : look (fun s => (s.ctl.activity, s.timer, s.ctl.rest))
    (step { idle0 with outcome := .timeout, rxWord := some 0x0C8D#16, ctl := { idle0.ctl with rest := [.seq .plCheck] } })
      = some (.plIdle, 5, [.op .pollLoop]) := by decide
theorem test_placed_word_runs : look (fun s => s.txCmd) (step (idle0.withFetchWord 8 0x2C)) = some 0x2C#8 := by decide

/-! ## Witnesses: states and operands that meet the hypotheses of the statements -/

/-- A record with short durations, for witnesses. -/
def short : Params :=
  { nominal5 with
    tBit0Low := 4, tBit0High := 2, tBit1Low := 2, tBit1High := 4, tResetLow := 2, tResetSettle := 3
    tAttnLow := 3, tSyncHigh := 1, tGap := 2, tRespTimeout := 5, tRespSettle := 4, tSampleOffset := 3 }

/-- The low ticks of cells sent from a tick on. -/
def cellSpans (p : Params) : Nat → List Bit → List (Nat × Nat)
  | _, [] => []
  | t, b :: bs => (t, t + p.cellLow b - 1) :: cellSpans p (t + p.cellTicks b) bs

/-- `idle0` with the short record. -/
def short0 : State := { idle0 with cfg := short }

/-- `short0` with a peripheral that sends `w` from a tick on. -/
def answers (w : BitVec 16) (tf : Nat) : State :=
  { short0 with env := { short0.env with lows := cellSpans short tf (responseCells short w) } }

/-- `idle0` with a program left to run. -/
def withProgram (ts : List Task) (s : State) : State := { s with ctl := { s.ctl with rest := ts } }

theorem quiet (s : State) (n : Nat) (h : s.env.rst = []) : s.QuietRst n := by
  intro d _; simp [Env.rstAt, h, inSpans]

theorem silent (e : Env) (t0 n : Nat) (hl : e.lows = []) (h : t0 + n ≤ e.known) : Silent e t0 n := by
  intro t _ ht
  have : t < e.known := by omega
  simp [Env.periphLow, this, hl, inSpans]

theorem hostTakes (s : State) (n : Nat) (hb : s.env.busy = []) (h : s.now + n < s.env.known) : s.HostTakes n := by
  intro d hd
  have : s.now + d < s.env.known := by omega
  simp [Env.hostReady, this, hb, inSpans]

theorem responds (p : Params) (e : Env) (w : BitVec 16) (t0 n tf : Nat)
    (h : (List.range n).all (fun d => e.periphLow (t0 + d)
      == (decide (tf ≤ t0 + d) && cellsLow p (responseCells p w) (t0 + d - tf))) = true) :
    Responds p e w t0 n tf := by
  intro t h1 h2
  have := List.all_eq_true.1 h (t - t0) (List.mem_range.2 (by omega))
  have e1 : t0 + (t - t0) = t := by omega
  simpa [e1] using this

theorem receives_nominal : Receives Params.nominal := by
  constructor <;> decide

theorem receives_short : Receives short := by
  constructor <;> decide

theorem admissible_nominal : Admissible Params.nominal where
  ticks := by decide
  durations := by decide
  codes := by decide
  registers := by decide
  leds := by decide
  rising := by decide
  pinned := by decide
  sentinel := by decide
  caps := by
    refine ⟨scanCaps, by decide, fun other h => ?_⟩
    unfold Params.keymapAt at h
    split at h
    · rename_i e he
      revert e
      revert other
      decide
    · unfold Params.openKey at h
      split at h
      · split at h
        · cases h
        · rename_i hk; cases h; exact absurd rfl hk
      · cases h
  capsKey := by decide

theorem witness_BlockResetDominatesEveryTick :
    ({ idle0 with env := { idle0.env with rst := [(0, 3)] } } : State).rst = true := by decide

theorem witness_BlockResetDominatesEveryTick_first_tick_after :
    ∃ t, step ({ idle0 with env := { idle0.env with rst := [(0, 0)] } } : State) = .next t ∧ t.rst = false :=
  ⟨_, rfl, rfl⟩

theorem witness_DelayTickCountsDown :
    ({ idle0 with timer := 1 } : State).rst = false ∧ ({ idle0 with timer := 1 } : State).timer = 0 + 1 := by decide

theorem witness_StepRunsHeadOperation :
    State.reset.rst = false ∧ State.reset.timer = 0 ∧ State.reset.ctl.rest = .op .main :: [] := ⟨rfl, rfl, rfl⟩

theorem witness_StepRunsPlacedWord : decodeTableWord 8 0x2F = some .readBringup := by decide

theorem witness_DecodeEncodeRoundTrip :
    WellFormed (.write 15#4 3#2 0xA5C3#16) = true
      ∧ encode (.write 15#4 3#2 0xA5C3#16) = some (.command [0xFB#8, 0xA5#8, 0xC3#8]) := by decide

theorem witness_SampleBitBegins :
    idle0.line = 1#1 ∧ ({ idle0 with env := { idle0.env with lows := [(0, 0)] } } : State).line = 0#1 := by decide

theorem witness_EmitCommandBegins : (0b10#2 = idle0.cfg.cmdWrite) ∧ (0b11#2 = idle0.cfg.cmdRead) := by decide

theorem witness_ReservedCodesNeverEmitted :
    (0b00#2 ≠ idle0.cfg.cmdWrite ∧ 0b00#2 ≠ idle0.cfg.cmdRead)
      ∧ ∃ t, step (withProgram [.op .readKeys] idle0) = .next t ∧ (withProgram [.op .readKeys] idle0).rst = false
        ∧ t.txCmd ≠ idle0.txCmd := by
  refine ⟨by decide, _, rfl, rfl, by decide⟩

theorem witness_EventByteBranches :
    ({ nominal5 with powerKeyDetect := .scan7F } : Params).powerKeyDetect = .scan7F
      ∧ idle0.cfg.powerKeyDetect = .never ∧ idle0.cfg.keymapAt 0x7F#7 = none
      ∧ idle0.cfg.keymapAt 0x39#7 = some idle0.cfg.keyCaps
      ∧ idle0.cfg.capsTransition = .any
      ∧ ({ nominal5 with capsTransition := .releaseOnly } : Params).keymapAt 0x39#7 = some nominal5.keyCaps
      ∧ idle0.cfg.keymapAt 0x0C#7 = some (.char 'q') ∧ LogicalKey.char 'q' ≠ idle0.cfg.keyCaps := by decide

theorem witness_PackTableNominal :
    ({ idle0 with indCaps := true } : State).LocksUnlit ∧ idle0.cfg.ledBitNum = 0 ∧ idle0.cfg.ledBitCaps = 1
      ∧ idle0.cfg.ledBitScroll = 2 :=
  ⟨⟨rfl, rfl⟩, rfl, rfl, rfl⟩

/-- An event byte of either polarity waits for its slot. -/
theorem witness_SlotOneIsDecodedNext :
    (withProgram [.seq (.decodeSecond 0xB9#8)] idle0).rst = false ∧ (withProgram [.seq (.decodeSecond 0xB9#8)] idle0).timer = 0
      ∧ (withProgram [.seq (.decodeSecond 0xB9#8)] idle0).ctl.rest = .seq (.decodeSecond 0xB9#8) :: [] := ⟨rfl, rfl, rfl⟩

theorem witness_PackIndicatorsActiveLow :
    Admissible Params.nominal ∧ 15 < 16 ∧ (Params.nominal.indicatorWord true true true).getLsbD 15 = true
      ∧ (Params.nominal.indicatorWord true false false).getLsbD Params.nominal.ledBitNum = false :=
  ⟨admissible_nominal, by decide, by decide, by decide⟩

theorem witness_CellWaveform : idle0.QuietRst (idle0.cfg.cellTicks 1#1) ∧ 0#1 = idle0.cfg.stopBit ∧ 1#1 = idle0.cfg.startBit :=
  ⟨quiet _ _ rfl, rfl, rfl⟩

theorem witness_AttentionAndResetWaveforms :
    idle0.QuietRst (waveTicks (attentionWave idle0.cfg)) ∧ idle0.QuietRst (waveTicks (resetWave idle0.cfg)) :=
  ⟨quiet _ _ rfl, quiet _ _ rfl⟩

theorem witness_CommandFrameWaveform :
    0b11#2 = idle0.cfg.cmdRead ∧ idle0.QuietRst (waveTicks (commandWave idle0.cfg 2#4 0b11#2 0#2)) :=
  ⟨rfl, quiet _ _ rfl⟩

theorem witness_WriteFrameWaveform : idle0.QuietRst (waveTicks (writeWave idle0.cfg 2#4 2#2 0xFFFD#16)) := quiet _ _ rfl

theorem witness_ReadTimesOut :
    Silent short0.env (waitFrom short0 2#4 0#2) (polls short0)
      ∧ short0.QuietRst (waveTicks (commandWave short0.cfg 2#4 short0.cfg.cmdRead 0#2) + polls short0) :=
  ⟨silent _ _ _ rfl (by decide), quiet _ _ rfl⟩

/-- At the first poll and at the last one. -/
theorem witness_ReadStartDetected :
    (0 < polls short0 ∧ Silent (answers 0#16 58).env (waitFrom short0 2#4 0#2) 0
        ∧ (answers 0#16 58).env.periphLow (waitFrom short0 2#4 0#2 + 0) = true)
      ∧ (4 < polls short0 ∧ Silent (answers 0#16 62).env (waitFrom short0 2#4 0#2) 4
        ∧ (answers 0#16 62).env.periphLow (waitFrom short0 2#4 0#2 + 4) = true)
      ∧ (answers 0#16 62).QuietRst 1000 := by
  refine ⟨⟨by decide, fun t h1 h2 => by omega, by decide⟩, ⟨by decide, fun t h1 h2 => ?_, by decide⟩, quiet _ _ rfl⟩
  have e : waitFrom short0 2#4 0#2 = 58 := by decide
  rw [e] at h1 h2
  have : t = 58 ∨ t = 59 ∨ t = 60 ∨ t = 61 := by omega
  rcases this with rfl | rfl | rfl | rfl <;> decide

/-- A response that starts at the last poll. -/
theorem witness_ReadLoopBack :
    Receives (answers 0x0C8D#16 62).cfg ∧ 4 < polls (answers 0x0C8D#16 62)
      ∧ Responds short (answers 0x0C8D#16 62).env 0x0C8D#16 (waitFrom (answers 0x0C8D#16 62) 2#4 0#2)
        (polls (answers 0x0C8D#16 62) + responseTicks short 0x0C8D#16) (waitFrom (answers 0x0C8D#16 62) 2#4 0#2 + 4)
      ∧ (answers 0x0C8D#16 62).QuietRst 1000 :=
  ⟨receives_short, by decide, responds _ _ _ _ _ _ (by decide +kernel), quiet _ _ rfl⟩

/-- With a high phase before the low one, and with the line low at once. -/
theorem witness_SampleBitAtOffset :
    idle0.pinMode = .release
      ∧ (∀ d, d < 3 → ({ idle0.env with lows := [(3, 4)] } : Env).periphLow (0 + d) = false)
      ∧ (∀ d, d < 2 → ({ idle0.env with lows := [(3, 4)] } : Env).periphLow (0 + 3 + d) = true)
      ∧ ({ idle0.env with lows := [(3, 4)] } : Env).periphLow (0 + 3 + 2) = false
      ∧ (∀ d, d < 1 → ({ idle0.env with lows := [(0, 0)] } : Env).periphLow (0 + 0 + d) = true)
      ∧ ({ idle0.env with lows := [(0, 0)] } : Env).periphLow (0 + 0 + 1) = false
      ∧ idle0.QuietRst 1000 :=
  ⟨rfl, by decide, by decide, by decide, by decide, by decide, quiet _ _ rfl⟩

theorem witness_EdgeWaitsHang :
    idle0.pinMode = .release ∧ idle0.QuietRst 5 ∧ (∀ d, d < 5 → idle0.env.periphLow (idle0.now + d) = false)
      ∧ (∀ d, d < 5 → ({ idle0.env with lows := [(0, 9)] } : Env).periphLow (idle0.now + d) = true) :=
  ⟨rfl, quiet _ _ rfl, by decide, by decide⟩

/-- A ready host, and one that is ready after two ticks. -/
theorem witness_HostOperationWaitsThenOneTick :
    idle0.hostPort = none ∧ idle0.env.hostReady (idle0.now + 0) = true
      ∧ (∀ d, d < 2 → ({ idle0.env with busy := [(0, 1)] } : Env).hostReady (idle0.now + d) = false)
      ∧ ({ idle0.env with busy := [(0, 1)] } : Env).hostReady (idle0.now + 2) = true ∧ idle0.QuietRst 3 :=
  ⟨rfl, by decide, by decide, by decide, quiet _ _ rfl⟩

theorem witness_HostWaitHangs :
    (∀ d, d < 7 → ({ idle0.env with busy := [(0, 9)] } : Env).hostReady (idle0.now + d) = false) ∧ idle0.QuietRst 7 :=
  ⟨by decide, quiet _ _ rfl⟩

theorem witness_HookStrobesOneTick : idle0.hookPress = false ∧ idle0.hookRelease = false ∧ idle0.QuietRst 1 :=
  ⟨rfl, rfl, quiet _ _ rfl⟩

theorem witness_PlainWordGivesTwoOperations :
    idle0.cfg.keymapAt 0x0C#7 = some (.char 'q') ∧ idle0.cfg.keymapAt 0x0D#7 = some (.char 'w')
      ∧ LogicalKey.char 'q' ≠ idle0.cfg.keyCaps ∧ LogicalKey.char 'w' ≠ idle0.cfg.keyCaps
      ∧ idle0.cfg.powerKeyDetect = .never ∧ idle0.hostPort = none ∧ idle0.env.hostReady 0 = true
      ∧ idle0.env.hostReady (0 + 1) = true ∧ idle0.QuietRst 2 :=
  ⟨by decide, by decide, by decide, by decide, rfl, rfl, by decide, by decide, quiet _ _ rfl⟩

/-- A press and a release of the case-lock scan code, in a row. -/
theorem witness_EveryCapsTransitionToggles :
    (∀ e ∈ [0x39#8, 0xB9#8], short.keymapAt (eventScan e) = some short.keyCaps ∧ short.capsTransition = .any
        ∧ short.powerKeyDetect = .never)
      ∧ (withProgram [.op (.decodeSlot 0x39#8), .op (.decodeSlot 0xB9#8)] short0).ctl.rest
        = [0x39#8, 0xB9#8].map (fun e => Task.op (.decodeSlot e)) ++ []
      ∧ short0.timer = 0 ∧ short0.pinMode = .release ∧ short0.hostPort = none
      ∧ short0.HostTakes (waveTicks (togglesWave short false false 2 false))
      ∧ short0.QuietRst (waveTicks (togglesWave short false false 2 false)) :=
  ⟨by decide, rfl, rfl, rfl, rfl, hostTakes _ _ rfl (by decide), quiet _ _ rfl⟩

theorem witness_SilentBringUpRetries :
    Silent short0.env (short0.now + attemptLead short0.cfg) (polls short0)
      ∧ short0.QuietRst (waveTicks (attemptWave short0.cfg)) :=
  ⟨silent _ _ _ rfl (by decide), quiet _ _ rfl⟩

/-- A state about to run `main`, with a peripheral silent in the first attempt and answering the second: an attempt is
68 ticks, its bounded wait begins at its tick 63. -/
theorem witness_BringUpSucceedsOnTheAnsweredAttempt :
    ∃ s : State, s.ctl.rest = [.op .main] ∧ s.timer = 0 ∧ s.hostActive = false ∧ s.hostPort = none ∧ Receives s.cfg
      ∧ 0 < polls s
      ∧ (∀ i, i < 1 → Silent s.env (s.now + i * waveTicks (attemptWave s.cfg) + attemptLead s.cfg) (polls s))
      ∧ Responds s.cfg s.env 0xFFFF#16 (s.now + 1 * waveTicks (attemptWave s.cfg) + attemptLead s.cfg)
        (polls s + responseTicks s.cfg 0xFFFF#16) (s.now + 1 * waveTicks (attemptWave s.cfg) + attemptLead s.cfg + 0)
      ∧ s.HostTakes (1 * waveTicks (attemptWave s.cfg) + attemptLead s.cfg + polls s + responseTicks s.cfg 0xFFFF#16)
      ∧ s.QuietRst 1000 := by
  refine ⟨withProgram [.op .main] (answers 0xFFFF#16 131), rfl, rfl, rfl, rfl, receives_short, by decide, ?_,
    responds _ _ _ _ _ _ (by decide +kernel), hostTakes _ _ rfl (by decide), quiet _ _ rfl⟩
  intro i hi t h1 h2
  have e : i = 0 := by omega
  subst e
  have e1 : (withProgram [.op .main] (answers 0xFFFF#16 131)).now
      + 0 * waveTicks (attemptWave (withProgram [.op .main] (answers 0xFFFF#16 131)).cfg)
      + attemptLead (withProgram [.op .main] (answers 0xFFFF#16 131)).cfg = 63 := by decide
  have e2 : polls (withProgram [.op .main] (answers 0xFFFF#16 131)) = 5 := by decide
  rw [e1] at h1 h2
  rw [e2] at h2
  have : t = 63 ∨ t = 64 ∨ t = 65 ∨ t = 66 ∨ t = 67 := by omega
  rcases this with rfl | rfl | rfl | rfl | rfl <;> decide

theorem witness_SilentPollSkipsDecoding :
    Silent short0.env (waitFrom short0 short0.cfg.deviceAddr short0.cfg.regKeys) (polls short0)
      ∧ short0.QuietRst (waveTicks (pollWave short0.cfg)) :=
  ⟨silent _ _ _ rfl (by decide), quiet _ _ rfl⟩

theorem witness_AnsweredPollDecodesTheWord :
    ∃ s : State, s.rst = false ∧ s.timer = 0 ∧ s.ctl.rest = .seq .plCheck :: [] ∧ s.outcome = .response
      ∧ s.rxWord = some 0x0C8D#16 :=
  ⟨withProgram [.seq .plCheck] { idle0 with outcome := .response, rxWord := some 0x0C8D#16 }, rfl, rfl, rfl, rfl, rfl⟩

theorem witness_ResponseActivatesHost :
    ∃ s : State, s.timer = 0 ∧ s.ctl.rest = .seq .buCheck :: [.op .pollLoop] ∧ s.outcome = .response ∧ s.hostPort = none
      ∧ s.env.hostReady s.now = true ∧ s.QuietRst 1 :=
  ⟨withProgram [.seq .buCheck, .op .pollLoop] { idle0 with outcome := .response }, rfl, rfl, rfl, rfl, by decide,
    quiet _ _ rfl⟩

/-! ### The invariants -/

/-- A state about to run `main`, with known inputs. -/
def started : State := withProgram [.op .main] idle0

theorem started_endless : started.Endless := ⟨[], .op .main, rfl, rfl⟩

theorem started_pinDiscipline : started.PinDiscipline := by
  refine ⟨fun t ht => ?_, fun h => ?_, fun h => absurd rfl h⟩
  · have : t = .op .main := by simpa [started, withProgram, idle0, State.reset] using ht
    subst this; rfl
  · exact absurd h (by simp [started, withProgram, idle0, State.reset])

theorem started_phases : started.Phases := by
  refine ⟨fun _ => ⟨.inl rfl, rfl, rfl, rfl, .inl rfl, fun h => ?_⟩, fun h => ?_⟩
  · simp [started, withProgram, idle0, State.reset] at h
  · exact absurd h (by simp [started, withProgram, idle0, State.reset])

theorem started_rxHeld : started.RxHeld := by
  rintro (h | ⟨t, ht, hr⟩)
  · exact absurd h (by simp [started, withProgram, idle0, State.reset])
  · have : t = .op .main := by simpa [started, withProgram, idle0, State.reset] using ht
    subst this; cases hr

theorem started_countersBounded : started.CountersBounded := ⟨by decide, by decide⟩

theorem started_locksUnlit : started.LocksUnlit := ⟨rfl, rfl⟩

/-- The hypotheses of the statements that an invariant survives a step: the state takes a step (and meets each
invariant, above). -/
theorem witness_started_steps : ∃ t, step started = .next t := ⟨_, rfl⟩

theorem witness_ProgramStaysEndless : ∃ s t, State.Endless s ∧ step s = .next t := ⟨started, _, started_endless, rfl⟩

theorem witness_PinFollowsControlPoint : ∃ s t, State.PinDiscipline s ∧ step s = .next t :=
  ⟨started, _, started_pinDiscipline, rfl⟩

theorem witness_SenseOnlyWhileReleased :
    (withProgram [.seq .waitBegin] idle0).PinDiscipline ∧ (withProgram [.seq .waitBegin] idle0).ctl.rest = .seq .waitBegin :: []
      ∧ listens (.seq .waitBegin) = true ∧ (withProgram [.seq .waitBegin] idle0).isTick = false
      ∧ (∃ t, step (withProgram [.seq .waitBegin] idle0) = .next t)
      ∧ listens (.op .readKeys) = false
      ∧ ({ idle0.env with lows := [(0, 5)] } : Env).rst = idle0.env.rst
      ∧ ({ idle0.env with lows := [(0, 5)] } : Env).hostReady idle0.now = idle0.env.hostReady idle0.now
      ∧ ({ idle0.env with lows := [(0, 5)] } : Env).periphLow idle0.now ≠ idle0.env.periphLow idle0.now := by
  refine ⟨⟨fun t ht => ?_, fun h => ?_, fun h => absurd rfl h⟩, rfl, rfl, rfl, ⟨_, rfl⟩, rfl, rfl, rfl, by decide⟩
  · have : t = .seq .waitBegin := by simpa [withProgram] using ht
    subst this; rfl
  · exact absurd h (by simp [withProgram, idle0, State.reset])

theorem witness_PhasesOfLifeKept : ∃ s t, State.Phases s ∧ step s = .next t := ⟨started, _, started_phases, rfl⟩

/-- A state of the polling phase in which a key is handed to the host. -/
def polling : State :=
  { idle0 with hostActive := true, ctl := { activity := .plSlot1, point := .hostOp, rest := [.seq (.hostTry (.press .enter)), .seq .plIdle] } }

theorem polling_phases : polling.Phases := by
  refine ⟨fun h => ?_, fun _ => ⟨fun t ht => ?_, by decide, by decide⟩⟩
  · exact absurd h (by simp [polling])
  · have : t = .seq (.hostTry (.press .enter)) ∨ t = .seq .plIdle := by simpa [polling] using ht
    rcases this with rfl | rfl <;> rfl

theorem witness_NoKeyBeforeActivation :
    polling.Phases ∧ ∃ t, step polling = .next t ∧ t.hostPort = some (.press .enter) :=
  ⟨polling_phases, _, rfl, by decide⟩

theorem witness_ActivationHappensOnce :
    polling.Phases ∧ polling.hostActive = true ∧ polling.rst = false ∧ ∃ t, step polling = .next t :=
  ⟨polling_phases, rfl, rfl, _, rfl⟩

theorem witness_ReceivedWordHeld : ∃ s t, State.RxHeld s ∧ step s = .next t := ⟨started, _, started_rxHeld, rfl⟩

theorem witness_BlockNeverStops : started.Endless ∧ started.PinDiscipline ∧ started.RxHeld :=
  ⟨started_endless, started_pinDiscipline, started_rxHeld⟩

theorem witness_CountersStayBounded : ∃ s t, State.CountersBounded s ∧ step s = .next t :=
  ⟨started, _, started_countersBounded, rfl⟩

theorem witness_IndicatorWriters :
    started.LocksUnlit ∧ ∃ t, step (withProgram [.op (.evCaps 0#1)] idle0) = .next t
      ∧ (withProgram [.op (.evCaps 0#1)] idle0).rst = false ∧ t.indCaps = true :=
  ⟨started_locksUnlit, _, rfl, rfl, by decide⟩

theorem witness_ReadEngineOwnsItsResults :
    (∃ t, exec .readKeys idle0 = .next t)
      ∧ ∃ t, step (withProgram [.seq .waitNext] { idle0 with waitCnt := 1 }) = .next t
        ∧ (withProgram [.seq .waitNext] { idle0 with waitCnt := 1 }).rst = false ∧ t.outcome ≠ idle0.outcome :=
  ⟨⟨_, rfl⟩, _, rfl, rfl, by decide⟩

theorem witness_ConfigurationAndTime : ∃ t, step started = .next t := ⟨_, rfl⟩

end Sys2Proof.Tests
end

namespace Sys2Proof.Machine

/-- A tick of a delay with `n + 1` ticks left leaves `n`: the equation of `State.tick` without truncated subtraction. -/
theorem State.tick_of_timer_succ {s : State} {n : Nat} (h : s.timer = n + 1) :
    s.tick = { s with timer := n, now := s.now + 1 } := by
  simp [State.tick, h]

/-- Settles O3: with `rst` low and a delay in progress the step is `State.tick`. -/
theorem delayTickCountsDown : Obligations.DelayTickCountsDown := by
  intro s n hrst htimer
  have hne : s.timer ≠ 0 := by omega
  rw [step_tick s hrst hne, State.tick_of_timer_succ htimer]

end Sys2Proof.Machine

namespace Sys2Proof.Machine

/-! ## What a task puts in front of the continuation -/

/-- `t` has the continuation of `s` with tasks of one kind in front. -/
def Pushed (kind : Task → Bool) (s t : State) : Prop :=
  ∃ ts, t.ctl.rest = ts ++ s.ctl.rest ∧ ts.all kind = true

/-- The tasks of the block that do not shift into `rx_word`. -/
def stillTask (q : Task) : Bool := blockTask q && !rxTask q

theorem Pushed.rest {kind : Task → Bool} {s t : State} (h : Pushed kind s t) :
    ∀ x ∈ t.ctl.rest, kind x = true ∨ x ∈ s.ctl.rest := by
  obtain ⟨ts, hts, hk⟩ := h
  intro x hx
  rw [hts, List.mem_append] at hx
  exact hx.imp_left (List.all_eq_true.mp hk x)

theorem Pushed.mono {kind kind' : Task → Bool} {s t : State} (h : Pushed kind s t)
    (hk : ∀ x, kind x = true → kind' x = true) : Pushed kind' s t := by
  obtain ⟨ts, hts, hall⟩ := h
  exact ⟨ts, hts, List.all_eq_true.mpr fun x hx => hk x (List.all_eq_true.mp hall x hx)⟩

theorem Pushed.trans {kind : Task → Bool} {s t u : State} (h : Pushed kind s t) (h' : Pushed kind t u) :
    Pushed kind s u := by
  obtain ⟨ts, hts, hk⟩ := h
  obtain ⟨us, hus, hk'⟩ := h'
  exact ⟨us ++ ts, by rw [hus, hts, List.append_assoc], by rw [List.all_append, hk', hk]; rfl⟩

theorem Pushed.blockTask {s t : State} (h : Pushed stillTask s t) : Pushed blockTask s t :=
  h.mono fun _ hx => (Bool.and_eq_true_iff.mp hx).1

theorem sendBits_pushed (s : State) (f : TxField) : Pushed stillTask s (s.sendBits f) := by
  rcases sendBits_cases s f with ⟨-, h⟩ | ⟨i, -, h⟩ <;> rw [h]
  · exact ⟨[_], rfl, by cases f <;> rfl⟩
  · exact ⟨[_, _], rfl, by cases f <;> rfl⟩

theorem rxHigh_pushed (s : State) : Pushed stillTask s s.rxHigh := by
  rcases rxHigh_cases s with ⟨-, h⟩ | ⟨-, h⟩ <;> rw [h] <;> exact ⟨[_], rfl, rfl⟩

theorem rxLow_pushed (s : State) : Pushed stillTask s s.rxLow := by
  rcases rxLow_cases s with ⟨-, h⟩ | ⟨-, h⟩ <;> rw [h] <;> exact ⟨[_], rfl, rfl⟩

theorem rxBit_pushed (s : State) : Pushed blockTask s s.rxBit := by
  rcases rxBit_cases s with ⟨-, h⟩ | ⟨-, h⟩ <;> rw [h]
  · exact ⟨[], rfl, rfl⟩
  · exact Pushed.trans ⟨[_], rfl, rfl⟩ (rxLow_pushed _).blockTask

/-- A poll pushes a statement of the reception only when it has found the start, which gives `rx_word` a value. -/
theorem waitPoll_pushed (s : State) :
    Pushed stillTask s s.waitPoll ∨ (Pushed blockTask s s.waitPoll ∧ s.waitPoll.rxWord ≠ none) := by
  rcases waitPoll_cases s with ⟨-, h⟩ | ⟨-, -, h⟩ | ⟨-, -, h⟩ <;> rw [h]
  · exact .inl ⟨[], rfl, rfl⟩
  · exact .inr ⟨⟨[_], rfl, rfl⟩, Option.some_ne_none _⟩
  · exact .inl ⟨[_], rfl, rfl⟩

theorem hostEmit_pushed (s : State) (c : HostCall) : Pushed stillTask s (s.hostEmit c) := by
  rcases hostEmit_cases s c with ⟨-, h⟩ | ⟨-, h⟩ <;> rw [h] <;> exact ⟨[_], rfl, rfl⟩

theorem hookEmit_pushed (s : State) (h : HookEvent) : Pushed stillTask s (s.hookEmit h) :=
  ⟨[.seq (.hookDone h)], by cases h <;> rfl, rfl⟩

theorem toggleKey_pushed (s : State) : Pushed stillTask s s.toggleKey :=
  Pushed.trans (t := s.flipCaps.push [.op .writeIndicators]) ⟨[_], rfl, rfl⟩ (hostEmit_pushed _ _)

theorem decodeSlot_pushed (s : State) (e : Byte) : Pushed stillTask s (s.decodeSlot e) := by
  rcases decodeSlot_cases s e with ⟨k, h⟩ | ⟨-, h⟩ | ⟨-, -, h⟩ | ⟨k, -, -, h⟩ <;> rw [h]
  · exact hookEmit_pushed s k
  · exact ⟨[], rfl, rfl⟩
  · exact toggleKey_pushed (s.presentScan (eventScan e))
  · exact hostEmit_pushed (s.presentScan (eventScan e)) _

theorem decodeWord_pushed (s : State) (w : BitVec 16) : Pushed stillTask s (s.decodeWord w) :=
  Pushed.trans ⟨[_], rfl, rfl⟩ (decodeSlot_pushed ((s.beginSlot 0).push [.seq (.decodeSecond (slot1 w))]) _)

theorem buCheck_pushed (s : State) : Pushed stillTask s s.buCheck := by
  by_cases ho : s.outcome = .response
  · rw [buCheck_response s ho]; exact hostEmit_pushed (s.enter .buActivate) _
  · rw [buCheck_retry s ho]; exact ⟨[_, _], rfl, rfl⟩

/-- A task keeps the continuation and puts tasks of the block in front of it.  A statement of the reception is among
them only if the task is one itself, or once `rx_word` has a value. -/
theorem Ran.pushed {s t : State} {q : Task} (h : Ran s q t) :
    Pushed stillTask s t ∨ (Pushed blockTask s t ∧ (rxTask q = true ∨ t.rxWord ≠ none)) := by
  cases h with
  | driveLow | releaseHigh | sense | packIndicators | gap | seqPlay | seqRxTake | seqHostDone =>
    exact .inl ⟨[], rfl, rfl⟩
  | seqHookDone h => exact .inl ⟨[], by cases h <;> rfl, rfl⟩
  | bit0 | bit1 | stop | start | emitBit | attnSync | emitAttention | reset | emitResetPulse | seqWriteGap
  | seqPlIdle | seqPlCheckSilent =>
    exact .inl ⟨[_], rfl, rfl⟩
  | emitCommand | bringUp | seqWriteData => exact .inl ⟨[_, _], rfl, rfl⟩
  | write | sendWrite | ledWord | writeLeds | writeIndicators | read | sendReadRequest | readBringup | readKeys
  | main =>
    exact .inl ⟨[_, _, _], rfl, rfl⟩
  | pollLoop | seqBuRead => exact .inl ⟨[_, _, _, _], rfl, rfl⟩
  | press | release | writeAndAutoRelease | activate | hostEmit | seqHostTry => exact .inl (hostEmit_pushed s _)
  | powerKeyPress | powerKeyRelease | hookEmit => exact .inl (hookEmit_pushed s _)
  | evPress | evRelease | evSentinel | evCaps | evUnmapped | decodeSlot => exact .inl (decodeSlot_pushed s _)
  | seqDecodeSecond e => exact .inl (decodeSlot_pushed (s.beginSlot 1) e)
  | keyWord | decodeWord => exact .inl (decodeWord_pushed s _)
  | seqPlCheckAnswered w =>
    exact .inl (Pushed.trans (t := s.push [.seq .plIdle]) ⟨[_], rfl, rfl⟩ (decodeWord_pushed _ w))
  | seqSendBits f => exact .inl (sendBits_pushed s f)
  | seqNextBit f => exact .inl (sendBits_pushed s.countBit f)
  | sampleBit | seqRxLow => exact .inl (rxLow_pushed s)
  | seqRxHigh => exact .inl (rxHigh_pushed s)
  | seqBuCheck => exact .inl (buCheck_pushed s)
  | seqWaitBegin => exact (waitPoll_pushed { s with waitCnt := _ }).imp_right (.imp_right .inr)
  | seqWaitNext => exact (waitPoll_pushed { s with waitCnt := _ }).imp_right (.imp_right .inr)
  | seqRxBit => exact .inr ⟨rxBit_pushed s, .inl rfl⟩
  | seqRxShift => exact .inr ⟨rxBit_pushed (State.countBit { s with rxWord := _ }), .inl rfl⟩

theorem Ran.pushed_blockTask {s t : State} {q : Task} (h : Ran s q t) : Pushed blockTask s t :=
  h.pushed.elim Pushed.blockTask And.left

/-- A statement of the reception that remains after a task remained before it, or the task is one itself, or
`rx_word` has a value. -/
theorem Ran.rxTask_rest {s t : State} {q x : Task} (h : Ran s q t) (hx : x ∈ t.ctl.rest) (hr : rxTask x = true) :
    x ∈ s.ctl.rest ∨ rxTask q = true ∨ t.rxWord ≠ none := by
  rcases h.pushed with hp | ⟨-, hp⟩
  · refine (hp.rest x hx).elim (fun hs => ?_) .inl
    simp [stillTask, hr] at hs
  · exact .inr hp

/-! ## The pin during a delay (10_state.md R30, 40_bit_signaling.md R139) -/

/-- The two clauses of `State.PinDiscipline` that speak of the pin: a low phase has its release at the head of the
continuation, and during a delay the pin has the mode of the control point. -/
def State.PinSettled (s : State) : Prop :=
  (s.pinMode = .driveLow → ∃ p n ts, s.ctl.rest = .seq (.play .release p n) :: ts)
    ∧ (s.timer ≠ 0 → s.pinMode = s.ctl.point.pin)

theorem pinDiscipline_iff (s : State) :
    s.PinDiscipline ↔ (∀ t ∈ s.ctl.rest, blockTask t = true) ∧ s.PinSettled := Iff.rfl

/-- The pin is released and no delay is in progress: how every statement of the block but a release finds it. -/
def State.PinIdle (s : State) : Prop := s.pinMode = .release ∧ s.timer = 0

theorem symbol_pinSettled (s : State) (pL pH : Point) (nL nH : Nat) (hL : pL.pin = .driveLow) :
    (s.symbol pL nL pH nH).PinSettled :=
  ⟨fun _ => ⟨pH, nH, _, rfl⟩, fun _ => hL.symm⟩

theorem pinSettled_of_released {s : State} (hm : s.pinMode = .release) (hp : s.ctl.point.pin = .release) :
    s.PinSettled :=
  ⟨fun h => (nomatch hm.symm.trans h), fun _ => hm.trans hp.symm⟩

theorem State.PinIdle.pinSettled {s : State} (h : s.PinIdle) : s.PinSettled :=
  ⟨fun hm => (nomatch h.1.symm.trans hm), fun ht => absurd h.2 ht⟩

theorem play_pinSettled (s : State) {m : PinMode} {p : Point} (n : Nat)
    (hb : blockTask (.seq (.play m p n)) = true) : (s.play m p n).PinSettled := by
  obtain ⟨hm, hp⟩ : m = .release ∧ p.pin = .release := by simpa [blockTask] using hb
  exact pinSettled_of_released (s := s.play m p n) hm hp

theorem sendBits_pinSettled (s : State) (f : TxField) : (s.sendBits f).PinSettled := by
  rcases sendBits_cases s f with ⟨-, h⟩ | ⟨i, -, h⟩ <;> rw [h] <;>
    exact symbol_pinSettled _ _ _ _ _ (by cases f <;> rfl)

theorem waitPoll_pinSettled {s : State} (hs : s.PinIdle) : s.waitPoll.PinSettled := by
  rcases waitPoll_cases s with ⟨-, h⟩ | ⟨-, -, h⟩ | ⟨-, -, h⟩ <;> rw [h]
  · exact State.PinIdle.pinSettled (s := { s with outcome := .timeout }) hs
  · exact pinSettled_of_released hs.1 rfl
  · exact pinSettled_of_released hs.1 rfl

theorem rxHigh_pinSettled {s : State} (hm : s.pinMode = .release) : s.rxHigh.PinSettled := by
  rcases rxHigh_cases s with ⟨-, h⟩ | ⟨-, h⟩ <;> rw [h] <;> exact pinSettled_of_released hm rfl

theorem rxLow_pinSettled {s : State} (hm : s.pinMode = .release) : s.rxLow.PinSettled := by
  rcases rxLow_cases s with ⟨-, h⟩ | ⟨-, h⟩ <;> rw [h] <;> exact pinSettled_of_released hm rfl

theorem rxBit_pinSettled {s : State} (hs : s.PinIdle) : s.rxBit.PinSettled := by
  rcases rxBit_cases s with ⟨-, h⟩ | ⟨-, h⟩ <;> rw [h]
  · exact State.PinIdle.pinSettled (s := { s with outcome := .response }) hs
  · exact rxLow_pinSettled (s := s.push [.seq .rxShift]) hs.1

theorem hostEmit_pinSettled {s : State} (c : HostCall) (hm : s.pinMode = .release) :
    (s.hostEmit c).PinSettled := by
  rcases hostEmit_cases s c with ⟨-, h⟩ | ⟨-, h⟩ <;> rw [h] <;> exact pinSettled_of_released hm rfl

theorem hookEmit_pinSettled {s : State} (h : HookEvent) (hm : s.pinMode = .release) :
    (s.hookEmit h).PinSettled :=
  pinSettled_of_released (by cases h <;> exact hm) rfl

theorem decodeSlot_pinSettled {s : State} (e : Byte) (hs : s.PinIdle) : (s.decodeSlot e).PinSettled := by
  rcases decodeSlot_cases s e with ⟨k, h⟩ | ⟨-, h⟩ | ⟨-, -, h⟩ | ⟨k, -, -, h⟩ <;> rw [h]
  · exact hookEmit_pinSettled k hs.1
  · exact State.PinIdle.pinSettled (s := { s with kmScan := eventScan e }) hs
  · exact hostEmit_pinSettled (s := (s.presentScan (eventScan e)).flipCaps.push [.op .writeIndicators]) _ hs.1
  · exact hostEmit_pinSettled (s := s.presentScan (eventScan e)) _ hs.1

theorem buCheck_pinSettled {s : State} (hm : s.pinMode = .release) : s.buCheck.PinSettled := by
  by_cases ho : s.outcome = .response
  · rw [buCheck_response s ho]; exact hostEmit_pinSettled (s := s.enter .buActivate) _ hm
  · rw [buCheck_retry s ho]; exact symbol_pinSettled _ _ _ _ _ rfl

/-- A task of the block that finds the pin idle leaves it settled. -/
theorem Ran.pinSettled {s t : State} {q : Task} (h : Ran s q t) (hb : blockTask q = true) (hs : s.PinIdle) :
    t.PinSettled := by
  cases h with
  | main | pollLoop | writeIndicators | seqWriteData | seqBuRead => exact symbol_pinSettled _ _ _ _ _ rfl
  | seqPlay m p n => exact play_pinSettled s n hb
  | seqSendBits f => exact sendBits_pinSettled s f
  | seqNextBit f => exact sendBits_pinSettled s.countBit f
  | seqWriteGap => exact pinSettled_of_released rfl rfl
  | seqWaitBegin => exact waitPoll_pinSettled (s := { s with waitCnt := _ }) hs
  | seqWaitNext => exact waitPoll_pinSettled (s := { s with waitCnt := _ }) hs
  | seqRxLow => exact rxLow_pinSettled hs.1
  | seqRxHigh => exact rxHigh_pinSettled hs.1
  | seqRxTake => exact State.PinIdle.pinSettled (s := s.senseLine) hs
  | seqRxBit => exact rxBit_pinSettled hs
  | seqRxShift => exact rxBit_pinSettled (s := State.countBit { s with rxWord := _ }) hs
  | seqBuCheck => exact buCheck_pinSettled hs.1
  | seqPlIdle | seqPlCheckSilent => exact pinSettled_of_released hs.1 rfl
  | seqPlCheckAnswered w =>
    exact decodeSlot_pinSettled (s := ((s.push [.seq .plIdle]).beginSlot 0).push _) _ hs
  | seqDecodeSecond e => exact decodeSlot_pinSettled (s := s.beginSlot 1) e hs
  | seqHostTry c => exact hostEmit_pinSettled c hs.1
  | seqHostDone => exact State.PinIdle.pinSettled (s := s.dropHost) hs
  | seqHookDone h => cases h <;> exact State.PinIdle.pinSettled (s := State.dropHook _ s) hs
  | _ => cases hb

/-- A task of the block leaves the pin settled if it found it idle, or low with its release at the head. -/
theorem Ran.pinSettled_of_settled {s t : State} {q : Task} {ts : List Task} (h : Ran (s.withRest ts) q t)
    (hq : s.ctl.rest = q :: ts) (hb : blockTask q = true) (ht : s.timer = 0) (hs : s.PinSettled) :
    t.PinSettled := by
  cases hm : s.pinMode with
  | release => exact h.pinSettled hb ⟨hm, ht⟩
  | driveLow =>
    obtain ⟨p, n, us, hrest⟩ := hs.1 hm
    obtain ⟨rfl, -⟩ := List.cons.inj (hq.symm.trans hrest)
    cases h
    exact play_pinSettled _ n hb

theorem tick_pinSettled {s : State} (ht : s.timer ≠ 0) (hs : s.PinSettled) : s.tick.PinSettled :=
  ⟨hs.1, fun _ => hs.2 ht⟩

theorem blockReset_pinDiscipline (s : State) : s.blockReset.PinDiscipline :=
  ⟨by simp [State.reset, blockTask], State.PinIdle.pinSettled (s := s.blockReset) ⟨rfl, rfl⟩⟩

/-- Settles O47, by the cases of a step: only the head task can move the pin, and it is a task of the block. -/
theorem pinFollowsControlPoint : Obligations.PinFollowsControlPoint := by
  intro s t hs hstep
  obtain ⟨hblock, hpin⟩ := (pinDiscipline_iff s).mp hs
  rcases step_ran hstep with ⟨-, rfl⟩ | ⟨-, ht, rfl⟩ | ⟨-, ht, q, ts, hq, hran⟩
  · exact blockReset_pinDiscipline s
  · exact (pinDiscipline_iff s.tick).mpr ⟨hblock, tick_pinSettled ht hpin⟩
  · rw [hq, List.forall_mem_cons] at hblock
    obtain ⟨hb, hts⟩ := hblock
    refine (pinDiscipline_iff t).mpr ⟨fun x hx => ?_, hran.pinSettled_of_settled hq hb ht hpin⟩
    exact (hran.pushed_blockTask.rest x hx).elim id (hts x)

end Sys2Proof.Machine

namespace Sys2Proof.Machine

/-! ## What a task retains -/

/-- The part of the state beside control, pin, transmitter and ports: the configuration, the inputs, the time, the
indicators, the two counters of bits and polls, and the results of the read engine. -/
structure Retained where
  cfg : Params
  env : Env
  now : Nat
  indNum : Bool
  indCaps : Bool
  indScroll : Bool
  bitCnt : Nat
  waitCnt : Nat
  outcome : ReadOutcome
  rxWord : Option (BitVec 16)

def State.retained (s : State) : Retained where
  cfg := s.cfg
  env := s.env
  now := s.now
  indNum := s.indNum
  indCaps := s.indCaps
  indScroll := s.indScroll
  bitCnt := s.bitCnt
  waitCnt := s.waitCnt
  outcome := s.outcome
  rxWord := s.rxWord

/-! ### The shared operations -/

theorem command_retained (s : State) (a : BitVec 4) (code r : BitVec 2) :
    (s.command a code r).retained = { s.retained with bitCnt := 8 } := by
  rw [command_eq]; rfl

theorem sendRead_retained (s : State) (a : BitVec 4) (r : BitVec 2) :
    (s.sendRead a r).retained = { s.retained with bitCnt := 8 } :=
  command_retained (s.push [.seq .waitBegin]) _ _ _

theorem sendWrite_retained (s : State) (a : BitVec 4) (r : BitVec 2) (d : BitVec 16) :
    (s.sendWrite a r d).retained = { s.retained with bitCnt := 8 } :=
  command_retained ((s.loadData d).push [.seq .writeGap]) _ _ _

theorem sendBits_retained (s : State) (f : TxField) : (s.sendBits f).retained = s.retained := by
  rcases sendBits_cases s f with ⟨-, h⟩ | ⟨i, -, h⟩ <;> rw [h] <;> rfl

theorem rxHigh_retained (s : State) : s.rxHigh.retained = s.retained := by
  rcases rxHigh_cases s with ⟨-, h⟩ | ⟨-, h⟩ <;> rw [h] <;> rfl

theorem rxLow_retained (s : State) : s.rxLow.retained = s.retained := by
  rcases rxLow_cases s with ⟨-, h⟩ | ⟨-, h⟩ <;> rw [h] <;> rfl

theorem rxBit_retained (s : State) :
    ∃ o, (o = s.outcome ∨ o = .response) ∧ s.rxBit.retained = { s.retained with outcome := o } := by
  rcases rxBit_cases s with ⟨-, h⟩ | ⟨-, h⟩ <;> rw [h]
  · exact ⟨_, .inr rfl, rfl⟩
  · exact ⟨_, .inl rfl, rxLow_retained (s.push [.seq .rxShift])⟩

theorem hostEmit_retained (s : State) (c : HostCall) : (s.hostEmit c).retained = s.retained := by
  rcases hostEmit_cases s c with ⟨-, h⟩ | ⟨-, h⟩ <;> rw [h] <;> rfl

theorem hookEmit_retained (s : State) (h : HookEvent) : (s.hookEmit h).retained = s.retained := by
  cases h <;> rfl

theorem dropHook_retained (s : State) (h : HookEvent) : (s.dropHook h).retained = s.retained := by
  cases h <;> rfl

theorem toggleKey_retained (s : State) : s.toggleKey.retained = { s.retained with indCaps := !s.indCaps } :=
  hostEmit_retained (s.flipCaps.push [.op .writeIndicators]) _

/-- A decoded event byte flips `ind_caps` in the toggle branch and changes nothing of the retained part in the
others. -/
theorem decodeSlot_retained (s : State) (e : Byte) :
    (s.decodeSlot e).retained = s.retained
      ∨ (s.cfg.keymapAt (eventScan e) = some s.cfg.keyCaps ∧ s.cfg.togglesOn (eventRel e) = true
          ∧ (s.decodeSlot e).retained = { s.retained with indCaps := !s.indCaps }) := by
  rcases decodeSlot_cases s e with ⟨k, h⟩ | ⟨-, h⟩ | ⟨hk, ht, h⟩ | ⟨k, -, -, h⟩ <;> rw [h]
  · exact .inl (hookEmit_retained s k)
  · exact .inl rfl
  · exact .inr ⟨hk, ht, toggleKey_retained (s.presentScan (eventScan e))⟩
  · exact .inl (hostEmit_retained (s.presentScan (eventScan e)) _)

theorem buCheck_retained (s : State) : s.buCheck.retained = s.retained := by
  by_cases ho : s.outcome = .response
  · rw [buCheck_response s ho]; exact hostEmit_retained (s.enter .buActivate) _
  · rw [buCheck_retry s ho]; rfl

/-! ### One task -/

/-- The two statements that poll the line for the start of a response. -/
def pollsLine (q : Task) : Prop := q = .seq .waitBegin ∨ q = .seq .waitNext

/-- `n` polls are no more than were left, or than the bound in ticks (10_state.md R26). -/
def State.PollsLeft (s : State) (n : Nat) : Prop := n ≤ max s.waitCnt (s.cfg.ticks s.cfg.tRespTimeout)

/-- What the task `q`, run in `s`, can make of the retained part. -/
inductive Retains (s : State) (q : Task) : Retained → Prop
  | all : Retains s q s.retained
  /-- A field of a frame is begun, or one of its bits has been sent. -/
  | count (n : Nat) (hn : n ≤ max s.bitCnt 16) : Retains s q { s.retained with bitCnt := n }
  /-- The toggle branch (43_key_event_decoder.md R216). -/
  | toggle (e : Byte) (hq : decodedByte s q = some e) (hk : s.cfg.keymapAt (eventScan e) = some s.cfg.keyCaps)
      (ht : s.cfg.togglesOn (eventRel e) = true) : Retains s q { s.retained with indCaps := !s.indCaps }
  /-- A poll that finds the line high (41_command_protocol.md R166). -/
  | pollAgain (n : Nat) (hq : pollsLine q) (hn : s.PollsLeft n) : Retains s q { s.retained with waitCnt := n }
  | pollTimeout (n : Nat) (hq : pollsLine q) (hn : s.PollsLeft n) :
      Retains s q { s.retained with waitCnt := n, outcome := .timeout }
  /-- A poll that finds the start of a response. -/
  | pollFound (n : Nat) (hq : pollsLine q) (hn : s.PollsLeft n) :
      Retains s q { s.retained with waitCnt := n, bitCnt := 16, rxWord := some 0 }
  /-- The receive loop (R166), which ends in a response or goes on. -/
  | receive (o : ReadOutcome) (hq : q = .seq .rxBit) (ho : o = s.outcome ∨ o = .response) :
      Retains s q { s.retained with outcome := o }
  | shift (o : ReadOutcome) (hq : q = .seq .rxShift) (ho : o = s.outcome ∨ o = .response) :
      Retains s q { s.retained with
        bitCnt := s.bitCnt - 1, rxWord := s.rxWord.map fun w => shiftIn w s.retBit, outcome := o }

theorem Retains.of_eq {s t : State} {q : Task} (h : t.retained = s.retained) : Retains s q t.retained :=
  h ▸ .all

theorem Retains.of_count {s t : State} {q : Task} {n : Nat} (hn : n ≤ max s.bitCnt 16)
    (h : t.retained = { s.retained with bitCnt := n }) : Retains s q t.retained :=
  h ▸ .count n hn

/-- The event byte that a task decodes, decoded in a state that differs from `s` in control and slot only. -/
theorem Retains.of_decodeSlot {s u : State} {q : Task} {e : Byte} (hq : decodedByte s q = some e)
    (hu : u.retained = s.retained) : Retains s q (u.decodeSlot e).retained := by
  have hcfg : u.cfg = s.cfg := congrArg Retained.cfg hu
  have hcaps : u.indCaps = s.indCaps := congrArg Retained.indCaps hu
  rcases decodeSlot_retained u e with h | ⟨hk, ht, h⟩ <;> rw [h, hu]
  · exact .all
  · rw [hcfg] at hk ht
    rw [hcaps]
    exact .toggle e hq hk ht

theorem Retains.of_waitPoll {s : State} {q : Task} (n : Nat) (hq : pollsLine q) (hn : s.PollsLeft n) :
    Retains s q (State.waitPoll { s with waitCnt := n }).retained := by
  rcases waitPoll_cases { s with waitCnt := n } with ⟨-, h⟩ | ⟨-, -, h⟩ | ⟨-, -, h⟩ <;> rw [h]
  · exact .pollTimeout n hq hn
  · exact .pollFound n hq hn
  · exact .pollAgain n hq hn

theorem slot0_keyWordOf (e f : Byte) : slot0 (keyWordOf e f) = e :=
  BitVec.extractLsb'_append_of_eq (w := 8) (k := 1) (i := 1) rfl

/-- Everything a task can make of the retained part. -/
theorem Ran.retains {s t : State} {q : Task} (h : Ran s q t) : Retains s q t.retained := by
  have h8 : 8 ≤ max s.bitCnt 16 := by omega
  cases h with
  | emitCommand => exact .of_count h8 (command_retained s _ _ _)
  | write | sendWrite | ledWord | writeLeds | writeIndicators => exact .of_count h8 (sendWrite_retained s _ _ _)
  | read | sendReadRequest | readBringup | readKeys => exact .of_count h8 (sendRead_retained s _ _)
  | pollLoop => exact .of_count h8 (sendRead_retained ((s.enter .plRead).push [.seq .plCheck]) _ _)
  | seqBuRead => exact .of_count h8 (sendRead_retained ((s.enter .buRead).push [.seq .buCheck]) _ _)
  | seqWriteData => exact .of_count (le_max_right _ _) rfl
  | seqSendBits f => exact .of_eq (sendBits_retained s f)
  | seqNextBit f =>
    exact .of_count ((Nat.sub_le _ _).trans (le_max_left _ _)) (sendBits_retained s.countBit f)
  | sampleBit | seqRxLow => exact .of_eq (rxLow_retained s)
  | seqRxHigh => exact .of_eq (rxHigh_retained s)
  | press | release | writeAndAutoRelease | activate | hostEmit | seqHostTry =>
    exact .of_eq (hostEmit_retained s _)
  | powerKeyPress | powerKeyRelease | hookEmit => exact .of_eq (hookEmit_retained s _)
  | seqHookDone h => exact .of_eq (dropHook_retained s h)
  | seqBuCheck => exact .of_eq (buCheck_retained s)
  | evPress | evRelease | evSentinel | evCaps | evUnmapped | decodeSlot | decodeWord | seqDecodeSecond =>
    exact .of_decodeSlot rfl rfl
  | keyWord e f => exact .of_decodeSlot (congrArg some (slot0_keyWordOf e f).symm) rfl
  | seqPlCheckAnswered w ho hw => exact .of_decodeSlot (by simp [decodedByte, decodedBySeq, ho, hw]) rfl
  | seqWaitBegin => exact .of_waitPoll _ (.inl rfl) (le_max_right _ _)
  | seqWaitNext => exact .of_waitPoll _ (.inr rfl) ((Nat.sub_le _ _).trans (le_max_left _ _))
  | seqRxBit =>
    obtain ⟨o, ho, h⟩ := rxBit_retained s
    exact h ▸ .receive o rfl ho
  | seqRxShift =>
    obtain ⟨o, ho, h⟩ :=
      rxBit_retained (State.countBit { s with rxWord := s.rxWord.map fun w => shiftIn w s.retBit })
    exact h ▸ .shift o rfl ho
  | _ => exact .of_eq rfl

/-! ### Field by field -/

section
variable {s : State} {q : Task} {m : Retained}

/-- No task writes the configuration, the inputs, the time or the two indicators without a writer. -/
theorem Retains.fixed (h : Retains s q m) :
    m.cfg = s.cfg ∧ m.env = s.env ∧ m.now = s.now ∧ m.indNum = s.indNum ∧ m.indScroll = s.indScroll := by
  cases h <;> exact ⟨rfl, rfl, rfl, rfl, rfl⟩

theorem Retains.indCaps (h : Retains s q m) (hne : m.indCaps ≠ s.indCaps) :
    m.indCaps = !s.indCaps ∧ ∃ e, decodedByte s q = some e
      ∧ s.cfg.keymapAt (eventScan e) = some s.cfg.keyCaps ∧ s.cfg.togglesOn (eventRel e) = true := by
  cases h with
  | toggle e hq hk ht => exact ⟨rfl, e, hq, hk, ht⟩
  | _ => exact absurd rfl hne

theorem Retains.bitCnt_le (h : Retains s q m) : m.bitCnt ≤ max s.bitCnt 16 := by
  cases h with
  | count n hn => exact hn
  | pollFound => exact le_max_right _ _
  | shift => exact (Nat.sub_le _ _).trans (le_max_left _ _)
  | _ => exact le_max_left _ _

theorem Retains.pollsLeft (h : Retains s q m) : s.PollsLeft m.waitCnt := by
  cases h with
  | pollAgain n _ hn | pollTimeout n _ hn | pollFound n _ hn => exact hn
  | _ => exact le_max_left _ _

theorem Retains.waitCnt (h : Retains s q m) (hne : m.waitCnt ≠ s.waitCnt) : pollsLine q := by
  cases h with
  | pollAgain _ hq | pollTimeout _ hq | pollFound _ hq => exact hq
  | _ => exact absurd rfl hne

theorem Retains.outcome (h : Retains s q m) (hne : m.outcome ≠ s.outcome) :
    (m.outcome = .timeout ∧ pollsLine q) ∨ (m.outcome = .response ∧ (q = .seq .rxBit ∨ q = .seq .rxShift)) := by
  cases h with
  | pollTimeout _ hq => exact .inl ⟨rfl, hq⟩
  | receive o hq ho => exact .inr ⟨ho.resolve_left hne, .inl hq⟩
  | shift o hq ho => exact .inr ⟨ho.resolve_left hne, .inr hq⟩
  | _ => exact absurd rfl hne

theorem Retains.rxWord (h : Retains s q m) (hne : m.rxWord ≠ s.rxWord) : pollsLine q ∨ q = .seq .rxShift := by
  cases h with
  | pollFound _ hq => exact .inl hq
  | shift _ hq => exact .inr hq
  | _ => exact absurd rfl hne

/-- No task takes the value of `rx_word` away. -/
theorem Retains.rxWord_none (h : Retains s q m) (hm : m.rxWord = none) : s.rxWord = none := by
  cases h with
  | pollFound => cases hm
  | shift => exact Option.map_eq_none_iff.mp hm
  | _ => exact hm

end

theorem Ran.fixed {s t : State} {q : Task} (h : Ran s q t) :
    t.cfg = s.cfg ∧ t.env = s.env ∧ t.now = s.now ∧ t.indNum = s.indNum ∧ t.indScroll = s.indScroll :=
  h.retains.fixed

theorem not_pollsLine_op (i : Instr) : ¬ pollsLine (.op i) := by simp [pollsLine]

/-! ## Configuration and time (10_state.md R34, 00_scope.md R15) -/

/-- Settles O57: a task passes no time, and the two kinds of tick count one. -/
theorem configurationAndTime : Obligations.ConfigurationAndTime := by
  intro s t hstep
  rcases step_ran hstep with ⟨hr, rfl⟩ | ⟨-, ht, rfl⟩ | ⟨hr, ht, q, ts, -, hran⟩
  · exact ⟨rfl, rfl, by simp [State.isTick, hr]⟩
  · exact ⟨rfl, rfl, by simp [State.isTick, ht]⟩
  · obtain ⟨hcfg, henv, hnow, -⟩ := hran.fixed
    exact ⟨hcfg, henv, by simpa [State.isTick, hr, ht] using hnow⟩

/-! ## The bounds of the counters (10_state.md R26) -/

/-- Settles O54: a task leaves each counter at most its bound or its old value. -/
theorem countersStayBounded : Obligations.CountersStayBounded := by
  intro s t ⟨hbit, hwait⟩ hstep
  rcases step_ran hstep with ⟨-, rfl⟩ | ⟨-, -, rfl⟩ | ⟨-, -, q, ts, -, hran⟩
  · exact ⟨Nat.zero_le _, Nat.zero_le _⟩
  · exact ⟨hbit, hwait⟩
  · have hcfg : t.cfg = s.cfg := hran.fixed.1
    refine ⟨hran.retains.bitCnt_le.trans (max_le hbit le_rfl), ?_⟩
    rw [hcfg]
    exact hran.retains.pollsLeft.trans (max_le hwait le_rfl)

/-! ## The received word (10_state.md R27) -/

theorem rxHeld_iff (s : State) :
    s.RxHeld ↔ (s.rxWord = none → s.outcome ≠ .response ∧ ∀ x ∈ s.ctl.rest, rxTask x = false) := by
  unfold State.RxHeld
  rw [← not_imp_not, not_not, not_or]
  simp

/-- Only the statements of the reception answer a response. -/
theorem Retains.outcome_response {s : State} {q : Task} {m : Retained} (h : Retains s q m)
    (hm : m.outcome = .response) : s.outcome = .response ∨ rxTask q = true := by
  by_cases hne : m.outcome = s.outcome
  · exact .inl (hne.symm.trans hm)
  · rcases h.outcome hne with ⟨ht, -⟩ | ⟨-, rfl | rfl⟩
    · exact nomatch ht.symm.trans hm
    · exact .inr rfl
    · exact .inr rfl

/-- Settles O52: without a value in `rx_word` after a task there was none before it, so no statement of the reception
ran, and none was added. -/
theorem receivedWordHeld : Obligations.ReceivedWordHeld := by
  intro s t hs hstep
  rcases step_ran hstep with ⟨-, rfl⟩ | ⟨-, -, rfl⟩ | ⟨-, -, q, ts, hq, hran⟩
  · simp [State.RxHeld, State.reset, rxTask]
  · exact hs
  · rw [rxHeld_iff, hq, List.forall_mem_cons] at hs
    refine (rxHeld_iff t).mpr fun hnone => ?_
    obtain ⟨hout, hrxq, hrest⟩ := hs (hran.retains.rxWord_none hnone)
    refine ⟨fun ho => ?_, fun x hx => ?_⟩
    · rcases hran.retains.outcome_response ho with h | h
      · exact hout h
      · simp [hrxq] at h
    · by_contra hrx
      rcases hran.rxTask_rest hx (by simpa using hrx) with h | h | h
      · exact hrx (hrest x h)
      · simp [hrxq] at h
      · exact h hnone

/-! ## The writers of the indicators (10_state.md R23, 43_key_event_decoder.md R219) -/

theorem decodedByte_withRest (s : State) (ts : List Task) (q : Task) :
    decodedByte (s.withRest ts) q = decodedByte s q := by
  cases q with
  | op i => rfl
  | seq q => cases q <;> rfl

/-- Settles O55: a reset clears the indicators, a tick of a delay keeps them, and a task flips `ind_caps` in the toggle
branch alone. -/
theorem indicatorWriters : Obligations.IndicatorWriters := by
  refine ⟨fun s t hs hstep => ?_, fun s t hstep hrst => ?_⟩
  · rcases step_ran hstep with ⟨-, rfl⟩ | ⟨-, -, rfl⟩ | ⟨-, -, q, ts, -, hran⟩
    · exact ⟨rfl, rfl⟩
    · exact hs
    · obtain ⟨-, -, -, hnum, hscroll⟩ := hran.fixed
      exact ⟨hnum.trans hs.1, hscroll.trans hs.2⟩
  · rcases step_ran hstep with ⟨hr, -⟩ | ⟨-, -, rfl⟩ | ⟨-, ht, q, ts, hq, hran⟩
    · simp [hrst] at hr
    · exact ⟨rfl, rfl, fun hne => absurd rfl hne⟩
    · obtain ⟨-, -, -, hnum, hscroll⟩ := hran.fixed
      refine ⟨hnum, hscroll, fun hne => ?_⟩
      obtain ⟨hflip, e, he, hk, htog⟩ := hran.retains.indCaps hne
      exact ⟨hflip, q, ts, e, ht, hq, (decodedByte_withRest s ts q).symm.trans he, hk, (togglesOn_iff _ _).mp htog⟩

/-! ## The results of the read engine (10_state.md R26, R27, R28, 41_command_protocol.md R171) -/

/-- Settles O56: an operation is none of the statements that poll or receive, and no other task writes a result. -/
theorem readEngineOwnsItsResults : Obligations.ReadEngineOwnsItsResults := by
  refine ⟨fun i s t hexec => ?_, fun s t hstep hrst => ?_⟩
  · have hret := (ran_op hexec).retains
    have hpoll := not_pollsLine_op i
    refine ⟨?_, ?_, ?_⟩ <;> by_contra hne
    · simpa [hpoll] using hret.outcome hne
    · simpa [hpoll] using hret.rxWord hne
    · exact hpoll (hret.waitCnt hne)
  · rcases step_ran hstep with ⟨hr, -⟩ | ⟨-, -, rfl⟩ | ⟨-, ht, q, ts, hq, hran⟩
    · simp [hrst] at hr
    · exact ⟨fun hne => absurd rfl hne, fun hne => absurd rfl hne, fun hne => absurd rfl hne⟩
    · exact ⟨fun hne => ⟨ht, q, ts, hq, hran.retains.outcome hne⟩,
        fun hne => ⟨ht, q, ts, hq, or_assoc.mp (hran.retains.rxWord hne)⟩,
        fun hne => ⟨ht, q, ts, hq, hran.retains.waitCnt hne⟩⟩

/-! ## Reset and the line -/

/-- Settles O1: the values of 10_state.md R36, field by field. -/
theorem resetLeavesListedValues : Obligations.ResetLeavesListedValues := by
  simp [Obligations.ResetLeavesListedValues, State.reset, State.lineDriveLow, State.hostValid]

theorem line_eq (s : State) :
    s.line = if s.pinMode = .driveLow ∨ s.env.periphLow s.now = true then 0#1 else 1#1 := rfl

theorem exec_sense (s : State) : exec .sense s = .next s.senseLine := rfl

/-- Settles O58: the line is the wired-AND of the two drivers, and `sense` stores it. -/
theorem lineIsWiredAnd : Obligations.LineIsWiredAnd := by
  intro s
  refine ⟨?_, ?_, ?_⟩
  · rw [line_eq]; split <;> simp [*]
  · simp [State.lineDriveLow]
  · rw [exec_sense, State.senseLine, line_eq]

end Sys2Proof.Machine

namespace Sys2Proof.Machine

/-! ## The command byte (30_encoding.md R100) -/

@[simp] theorem cmdAddr_cmdByte (a : BitVec 4) (code r : BitVec 2) : cmdAddr (cmdByte a code r) = a := by
  rw [cmdAddr, cmdByte, BitVec.extractLsb'_append_eq_of_le (by decide), BitVec.extractLsb'_append_eq_left]

@[simp] theorem cmdCode_cmdByte (a : BitVec 4) (code r : BitVec 2) : cmdCode (cmdByte a code r) = code := by
  rw [cmdCode, cmdByte, BitVec.extractLsb'_append_eq_of_le le_rfl,
    BitVec.extractLsb'_append_eq_of_add_le (by decide), Nat.sub_self, BitVec.extractLsb'_eq_self]

@[simp] theorem cmdReg_cmdByte (a : BitVec 4) (code r : BitVec 2) : cmdReg (cmdByte a code r) = r := by
  rw [cmdReg, cmdByte, BitVec.extractLsb'_append_eq_of_add_le (by decide), BitVec.extractLsb'_eq_self]

theorem toNat_append_eq {m n : Nat} (x : BitVec m) (y : BitVec n) :
    (x ++ y).toNat = 2 ^ n * x.toNat + y.toNat := by
  rw [BitVec.toNat_append, ← Nat.shiftLeft_add_eq_or_of_lt y.isLt, Nat.shiftLeft_eq, Nat.mul_comm]

theorem cmdByte_toNat (a : BitVec 4) (code r : BitVec 2) :
    (cmdByte a code r).toNat = 16 * a.toNat + 4 * code.toNat + r.toNat := by
  rw [cmdByte, toNat_append_eq, toNat_append_eq]
  omega

/-- Settles O9: the byte is two concatenations, so each field is read back from its place. -/
theorem commandByteFields : Obligations.CommandByteFields := fun a code r =>
  ⟨cmdAddr_cmdByte a code r, cmdCode_cmdByte a code r, cmdReg_cmdByte a code r, cmdByte_toNat a code r⟩

/-! ## Bits most significant first (00_scope.md R13) -/

theorem msbFirst_append {m n : Nat} (x : BitVec m) (y : BitVec n) :
    msbFirst (m + n) (x ++ y) = msbFirst m x ++ msbFirst n y := by
  have hx (i : Nat) (_ : i < m) : (x ++ y).extractLsb' (n + i) 1 = x.extractLsb' i 1 := by
    rw [BitVec.extractLsb'_append_eq_of_le (Nat.le_add_right n i), Nat.add_sub_cancel_left]
  have hy (i : Nat) (hi : i < n) : (x ++ y).extractLsb' i 1 = y.extractLsb' i 1 :=
    BitVec.extractLsb'_append_eq_of_add_le hi
  have hrange : List.range (m + n) = List.range n ++ (List.range m).map (n + ·) := by
    rw [Nat.add_comm, List.range_add]
  rw [← msbFirst_eq_map (m + n) (fun i => (x ++ y).extractLsb' i 1) _ (fun _ _ => rfl), ← msbFirst_eq_map m _ x hx,
    ← msbFirst_eq_map n _ y hy, hrange, List.reverse_append, List.map_append, ← List.map_reverse, List.map_map]
  rfl

theorem msbFirst_one (b : Bit) : msbFirst 1 b = [b] := by
  rw [msbFirst, msbFirst, BitVec.extractLsb'_eq_self]

/-- The accumulator of `ofMsbFirst` shifts left by the bits it reads and takes their value. -/
theorem foldl_msbFirst (n acc : Nat) (w : BitVec n) :
    (msbFirst n w).foldl (fun acc b => 2 * acc + b.toNat) acc = 2 ^ n * acc + w.toNat := by
  induction n generalizing acc with
  | zero => simp [msbFirst, BitVec.eq_nil w]
  | succ n ih =>
    have hlt : w.toNat / 2 ^ n < 2 ^ 1 := Nat.div_lt_of_lt_mul (pow_succ 2 n ▸ w.isLt)
    have hw : w.toNat = 2 ^ n * (w.extractLsb' n 1).toNat + (w.setWidth n).toNat := by
      rw [BitVec.extractLsb'_toNat, BitVec.toNat_setWidth, Nat.shiftRight_eq_div_pow, Nat.mod_eq_of_lt hlt,
        Nat.div_add_mod]
    rw [msbFirst, List.foldl_cons, ih, hw, pow_succ]
    ring

theorem ofMsbFirst_msbFirst (n : Nat) (w : BitVec n) : ofMsbFirst n (msbFirst n w) = w := by
  rw [ofMsbFirst, foldl_msbFirst, Nat.mul_zero, Nat.zero_add, BitVec.ofNat_toNat, BitVec.setWidth_eq]

/-- Every list of bits spells a word of its length. -/
theorem exists_msbFirst (bs : List Bit) : ∃ w : BitVec bs.length, msbFirst bs.length w = bs := by
  induction bs with
  | nil => exact ⟨0#0, rfl⟩
  | cons b bs ih =>
    obtain ⟨w, hw⟩ := ih
    rw [List.length_cons, Nat.add_comm]
    exact ⟨b ++ w, by rw [msbFirst_append, msbFirst_one, hw, List.singleton_append]⟩

theorem msbFirst_ofMsbFirst {n : Nat} {bs : List Bit} (h : bs.length = n) : msbFirst n (ofMsbFirst n bs) = bs := by
  subst h
  obtain ⟨w, hw⟩ := exists_msbFirst bs
  calc msbFirst bs.length (ofMsbFirst bs.length bs)
      = msbFirst bs.length (ofMsbFirst bs.length (msbFirst bs.length w)) := by rw [hw]
    _ = bs := by rw [ofMsbFirst_msbFirst, hw]

theorem msbFirst_cmdByte (a : BitVec 4) (code r : BitVec 2) :
    msbFirst 8 (cmdByte a code r) = msbFirst 4 a ++ msbFirst 2 code ++ msbFirst 2 r := by
  rw [← msbFirst_append, ← msbFirst_append]
  rfl

/-! ## The bit-sequence view of frames (30_encoding.md R101) -/

/-- Where `decodeWriteBits` is defined. -/
def WriteShape (p : Params) (bs : List Bit) : Prop :=
  bs.length = 27 ∧ (bs.drop 4).take 2 = msbFirst 2 p.cmdWrite ∧ (bs.drop 8).take 1 = [p.stopBit]
    ∧ (bs.drop 9).take 1 = [p.startBit] ∧ (bs.drop 26).take 1 = [p.stopBit]

/-- The three fields of a write, read from their places. -/
def writeFields (bs : List Bit) : BitVec 4 × BitVec 2 × BitVec 16 :=
  (ofMsbFirst 4 (bs.take 4), ofMsbFirst 2 ((bs.drop 6).take 2), ofMsbFirst 16 ((bs.drop 10).take 16))

theorem decodeWriteBits_eq_some {p : Params} {bs : List Bit} {x : BitVec 4 × BitVec 2 × BitVec 16} :
    decodeWriteBits p bs = some x ↔ WriteShape p bs ∧ writeFields bs = x :=
  Option.ite_none_right_eq_some.trans (and_congr_right fun _ => Option.some_inj)

theorem decodeWriteBits_isSome (p : Params) (bs : List Bit) :
    (decodeWriteBits p bs).isSome = true ↔ WriteShape p bs := by
  simp [Option.isSome_iff_exists, decodeWriteBits_eq_some]

section
variable (p : Params) (a : BitVec 4) (r : BitVec 2) (d : BitVec 16)

theorem encodeWriteBits_eq :
    encodeWriteBits p a r d = msbFirst 4 a ++ msbFirst 2 p.cmdWrite ++ msbFirst 2 r ++ [p.stopBit] ++ [p.startBit]
      ++ msbFirst 16 d ++ [p.stopBit] := by
  rw [encodeWriteBits, encodeCommandBits, msbFirst_cmdByte]

theorem encodeWriteBits_length : (encodeWriteBits p a r d).length = 27 := by
  simp [encodeWriteBits_eq, msbFirst_length]

theorem encodeReadBits_length : (encodeReadBits p a r).length = 9 := by
  simp [encodeReadBits, encodeCommandBits, msbFirst_length]

theorem writeShape_encodeWriteBits : WriteShape p (encodeWriteBits p a r d) := by
  refine ⟨encodeWriteBits_length p a r d, ?_⟩
  simp [encodeWriteBits_eq, List.take_append, List.drop_append, List.drop_eq_nil_of_le, msbFirst_length]

theorem writeFields_encodeWriteBits : writeFields (encodeWriteBits p a r d) = (a, r, d) := by
  simp [writeFields, encodeWriteBits_eq, List.drop_append, List.drop_eq_nil_of_le, msbFirst_length, ofMsbFirst_msbFirst]

end

/-- A list of 27 bits is the concatenation of the parts of a write frame. -/
theorem append_writeParts (bs : List Bit) (h : bs.length = 27) :
    bs.take 4 ++ (bs.drop 4).take 2 ++ (bs.drop 6).take 2 ++ (bs.drop 8).take 1 ++ (bs.drop 9).take 1
      ++ (bs.drop 10).take 16 ++ (bs.drop 26).take 1 = bs := by
  simp only [← List.take_add]
  exact List.take_of_length_le h.le

theorem encodeWriteBits_writeFields {p : Params} {bs : List Bit} (h : WriteShape p bs) :
    encodeWriteBits p (writeFields bs).1 (writeFields bs).2.1 (writeFields bs).2.2 = bs := by
  obtain ⟨hlen, hcode, hcstop, hstart, hdstop⟩ := h
  have ha : msbFirst 4 (ofMsbFirst 4 (bs.take 4)) = bs.take 4 := msbFirst_ofMsbFirst (by simp [hlen])
  have hr : msbFirst 2 (ofMsbFirst 2 ((bs.drop 6).take 2)) = (bs.drop 6).take 2 := msbFirst_ofMsbFirst (by simp [hlen])
  have hd : msbFirst 16 (ofMsbFirst 16 ((bs.drop 10).take 16)) = (bs.drop 10).take 16 :=
    msbFirst_ofMsbFirst (by simp [hlen])
  conv_rhs => rw [← append_writeParts bs hlen, hcode, hcstop, hstart, hdstop]
  rw [writeFields, encodeWriteBits_eq, ha, hr, hd]

theorem decodeWriteBits_eq_some_iff (p : Params) (a : BitVec 4) (r : BitVec 2) (d : BitVec 16) (bs : List Bit) :
    decodeWriteBits p bs = some (a, r, d) ↔ bs = encodeWriteBits p a r d := by
  rw [decodeWriteBits_eq_some]
  constructor
  · rintro ⟨hshape, hfields⟩
    rw [← encodeWriteBits_writeFields hshape, hfields]
  · rintro rfl
    exact ⟨writeShape_encodeWriteBits p a r d, writeFields_encodeWriteBits p a r d⟩

/-- Settles O8: a list decodes to a triple exactly when it is the encoding of the triple, and decodes at all exactly
when it has the shape of a write. -/
theorem writeBitsRoundTrip : Obligations.WriteBitsRoundTrip := fun p a r d =>
  ⟨rfl, rfl, rfl, (decodeWriteBits_eq_some_iff p a r d _).mpr rfl,
    fun bs => (decodeWriteBits_eq_some_iff p a r d bs).mp, encodeWriteBits_length p a r d, encodeReadBits_length p a r,
    decodeWriteBits_isSome p⟩

end Sys2Proof.Machine

namespace Sys2Proof.Machine

/-! ## How the symbols begin (30_encoding.md R90, R94, R95) -/

theorem exec_bit0 (s : State) : exec .bit0 s = .next (s.cell .bitLow .bitHigh 0#1) := rfl
theorem exec_bit1 (s : State) : exec .bit1 s = .next (s.cell .bitLow .bitHigh 1#1) := rfl
theorem exec_emitBit (s : State) (b : Bit) : exec (.emitBit b) s = .next (s.cell .bitLow .bitHigh b) := rfl
theorem exec_attnSync (s : State) : exec .attnSync s = .next s.attention := rfl
theorem exec_emitAttention (s : State) : exec .emitAttention s = .next s.attention := rfl
theorem exec_reset (s : State) : exec .reset s = .next s.resetPulse := rfl
theorem exec_emitResetPulse (s : State) : exec .emitResetPulse s = .next s.resetPulse := rfl
theorem exec_stop (s : State) : exec .stop s = .next (s.cell .cstopLow .cstopHigh s.cfg.stopBit) := rfl
theorem exec_start (s : State) : exec .start s = .next (s.cell .dstartLow .dstartHigh s.cfg.startBit) := rfl
theorem exec_gap (s : State) : exec .gap s = .next s.gapHigh := rfl

theorem cell_begun (s : State) (pL pH : Point) (b : Bit) :
    s.cell pL pH b = symbolBegun s pL (s.cfg.cellLow b) pH (s.cfg.cellHigh b) := rfl

theorem attention_begun (s : State) :
    s.attention = symbolBegun s .attnLow (s.cfg.tAttnLow * s.cfg.ticksPerUs)
      .syncHigh (s.cfg.tSyncHigh * s.cfg.ticksPerUs) := rfl

theorem resetPulse_begun (s : State) :
    s.resetPulse = symbolBegun s .resetLow (s.cfg.tResetLow * s.cfg.ticksPerUs)
      .resetSettle (s.cfg.tResetSettle * s.cfg.ticksPerUs) := rfl

theorem gapHigh_eq (s : State) :
    s.gapHigh = { s with
      pinMode := .release, timer := s.cfg.tGap * s.cfg.ticksPerUs, ctl := { s.ctl with point := .gap } } := rfl

/-- Settles O11: each instruction is one symbol of the record, and `emitBit` one of the two cells. -/
theorem symbolsBegin : Obligations.SymbolsBegin := by
  intro s
  refine ⟨?_, ?_, ?_, ?_, ?_, ?_, ?_, ?_, ?_, ?_, ?_⟩
  · rw [exec_bit0, cell_begun]; rfl
  · rw [exec_bit1, cell_begun]; rfl
  · rw [exec_emitBit, exec_bit0]
  · rw [exec_emitBit, exec_bit1]
  · rw [exec_attnSync, attention_begun]
  · rw [exec_emitAttention, attention_begun]
  · rw [exec_reset, resetPulse_begun]
  · rw [exec_emitResetPulse, resetPulse_begun]
  · rw [exec_stop, cell_begun]
  · rw [exec_start, cell_begun]
  · rw [exec_gap, gapHigh_eq]

end Sys2Proof.Machine

namespace Sys2Proof.Machine

/-! ## The writers of `tx_cmd` (10_state.md R25, 30_encoding.md R103) -/

/-! ### The operations that leave it -/

@[simp] theorem sendBits_txCmd (s : State) (f : TxField) : (s.sendBits f).txCmd = s.txCmd := by
  rcases sendBits_cases s f with ⟨-, h⟩ | ⟨i, -, h⟩ <;> rw [h] <;> rfl

@[simp] theorem waitPoll_txCmd (s : State) : s.waitPoll.txCmd = s.txCmd := by
  rcases waitPoll_cases s with ⟨-, h⟩ | ⟨-, -, h⟩ | ⟨-, -, h⟩ <;> rw [h]

@[simp] theorem rxHigh_txCmd (s : State) : s.rxHigh.txCmd = s.txCmd := by
  rcases rxHigh_cases s with ⟨-, h⟩ | ⟨-, h⟩ <;> rw [h]

@[simp] theorem rxLow_txCmd (s : State) : s.rxLow.txCmd = s.txCmd := by
  rcases rxLow_cases s with ⟨-, h⟩ | ⟨-, h⟩ <;> rw [h]

@[simp] theorem rxBit_txCmd (s : State) : s.rxBit.txCmd = s.txCmd := by
  rcases rxBit_cases s with ⟨-, h⟩ | ⟨-, h⟩ <;> rw [h]
  exact rxLow_txCmd _

@[simp] theorem hostEmit_txCmd (s : State) (c : HostCall) : (s.hostEmit c).txCmd = s.txCmd := by
  rcases hostEmit_cases s c with ⟨-, h⟩ | ⟨-, h⟩ <;> rw [h]

@[simp] theorem hookEmit_txCmd (s : State) (h : HookEvent) : (s.hookEmit h).txCmd = s.txCmd := by
  cases h <;> rfl

@[simp] theorem dropHook_txCmd (s : State) (h : HookEvent) : (s.dropHook h).txCmd = s.txCmd := by
  cases h <;> rfl

@[simp] theorem decodeSlot_txCmd (s : State) (e : Byte) : (s.decodeSlot e).txCmd = s.txCmd := by
  rcases decodeSlot_cases s e with ⟨k, h⟩ | ⟨-, h⟩ | ⟨-, -, h⟩ | ⟨k, -, -, h⟩ <;> rw [h]
  · exact hookEmit_txCmd s k
  · exact hostEmit_txCmd ((s.presentScan (eventScan e)).flipCaps.push [.op .writeIndicators]) _
  · exact hostEmit_txCmd (s.presentScan (eventScan e)) _

@[simp] theorem buCheck_txCmd (s : State) : s.buCheck.txCmd = s.txCmd := by
  by_cases ho : s.outcome = .response
  · rw [buCheck_response s ho]; exact hostEmit_txCmd _ _
  · rw [buCheck_retry s ho]; rfl

/-! ### One task, one step -/

theorem isCommandCode_iff (p : Params) (code : BitVec 2) :
    p.isCommandCode code = true ↔ code = p.cmdWrite ∨ code = p.cmdRead := by
  simp [Params.isCommandCode]

/-- The command byte of `t` is that of `s`, or has one of the two command codes. -/
def CommandKeptOrLoaded (s t : State) : Prop :=
  t.txCmd = s.txCmd ∨ s.cfg.isCommandCode (cmdCode t.txCmd) = true

theorem command_loaded (s : State) (a : BitVec 4) {code : BitVec 2} (r : BitVec 2)
    (h : s.cfg.isCommandCode code = true) : CommandKeptOrLoaded s (s.command a code r) := by
  right
  rwa [command_eq, cmdCode_cmdByte]

theorem sendRead_loaded (s : State) (a : BitVec 4) (r : BitVec 2) : CommandKeptOrLoaded s (s.sendRead a r) :=
  command_loaded (s.push [.seq .waitBegin]) a r ((isCommandCode_iff _ _).mpr (.inr rfl))

theorem sendWrite_loaded (s : State) (a : BitVec 4) (r : BitVec 2) (d : BitVec 16) :
    CommandKeptOrLoaded s (s.sendWrite a r d) :=
  command_loaded ((s.loadData d).push [.seq .writeGap]) a r ((isCommandCode_iff _ _).mpr (.inl rfl))

/-- The frames load the command byte, and every other task leaves it. -/
theorem Ran.commandKeptOrLoaded {s t : State} {q : Task} (h : Ran s q t) : CommandKeptOrLoaded s t := by
  cases h with
  | emitCommand a code r hcode => exact command_loaded s a r hcode
  | write | sendWrite | ledWord | writeLeds | writeIndicators => exact sendWrite_loaded s _ _ _
  | read | sendReadRequest | readBringup | readKeys => exact sendRead_loaded s _ _
  | pollLoop => exact sendRead_loaded ((s.enter .plRead).push [.seq .plCheck]) _ _
  | seqBuRead => exact sendRead_loaded ((s.enter .buRead).push [.seq .buCheck]) _ _
  | seqSendBits f => exact .inl (sendBits_txCmd s f)
  | seqNextBit f => exact .inl (sendBits_txCmd s.countBit f)
  | seqWaitBegin | seqWaitNext => exact .inl (waitPoll_txCmd { s with waitCnt := _ })
  | sampleBit | seqRxLow => exact .inl (rxLow_txCmd s)
  | seqRxHigh => exact .inl (rxHigh_txCmd s)
  | seqRxBit => exact .inl (rxBit_txCmd s)
  | seqRxShift => exact .inl (rxBit_txCmd (State.countBit { s with rxWord := _ }))
  | press | release | writeAndAutoRelease | activate | hostEmit | seqHostTry => exact .inl (hostEmit_txCmd s _)
  | powerKeyPress | powerKeyRelease | hookEmit => exact .inl (hookEmit_txCmd s _)
  | seqHookDone h => exact .inl (dropHook_txCmd s h)
  | seqBuCheck => exact .inl (buCheck_txCmd s)
  | evPress | evRelease | evSentinel | evCaps | evUnmapped | decodeSlot => exact .inl (decodeSlot_txCmd s _)
  | keyWord | decodeWord => exact .inl (decodeSlot_txCmd ((s.beginSlot 0).push _) _)
  | seqDecodeSecond e => exact .inl (decodeSlot_txCmd (s.beginSlot 1) e)
  | seqPlCheckAnswered w =>
    exact .inl (decodeSlot_txCmd (((s.push [.seq .plIdle]).beginSlot 0).push [.seq (.decodeSecond (slot1 w))]) _)
  | _ => exact .inl rfl

theorem exec_reservedCode00 (s : State) (a : BitVec 4) (r : BitVec 2) :
    exec (.reservedCode00 a r) s = .refused (.reservedCode 0b00#2) := rfl

theorem exec_reservedCode01 (s : State) (a : BitVec 4) (r : BitVec 2) :
    exec (.reservedCode01 a r) s = .refused (.reservedCode 0b01#2) := rfl

theorem exec_emitCommand (s : State) (a : BitVec 4) (code r : BitVec 2) :
    exec (.emitCommand a code r) s =
      if s.cfg.isCommandCode code then .next (s.command a code r) else .refused (.reservedCode code) := rfl

/-- Settles O14: `emitCommand` tests the code, and of the cases of a step only a task can load the command byte. -/
theorem reservedCodesNeverEmitted : Obligations.ReservedCodesNeverEmitted := by
  refine ⟨fun s a r => ⟨exec_reservedCode00 s a r, exec_reservedCode01 s a r⟩, fun s a code r hw hr => ?_,
    fun s t hstep hrst => ?_⟩
  · rw [exec_emitCommand, if_neg]
    rw [isCommandCode_iff]
    exact not_or.mpr ⟨hw, hr⟩
  · rcases step_ran hstep with ⟨hr, -⟩ | ⟨-, -, rfl⟩ | ⟨-, -, q, ts, -, hran⟩
    · simp [hrst] at hr
    · exact .inl rfl
    · exact hran.commandKeptOrLoaded.imp_right (isCommandCode_iff _ _).mp

end Sys2Proof.Machine

namespace Sys2Proof.Machine

/-! ## The pin primitives (40_bit_signaling.md R131, R132) -/

theorem exec_driveLow (s : State) : exec .driveLow s = .next (s.setPin .driveLow) := rfl
theorem exec_releaseHigh (s : State) : exec .releaseHigh s = .next (s.setPin .release) := rfl

/-- With the pin released the level of the line is the peripheral's. -/
theorem line_eq_zero_iff_of_released {s : State} (h : s.pinMode = .release) :
    s.line = 0#1 ↔ s.env.periphLow s.now = true := by
  simp [(lineIsWiredAnd s).1, h]

/-- Settles O10: both primitives are `State.setPin`, and the line is the wired-AND of the two drivers. -/
theorem pinPrimitives : Obligations.PinPrimitives := by
  intro s
  refine ⟨exec_driveLow s, ?_, exec_releaseHigh s, line_eq_zero_iff_of_released (s := s.setPin .release) rfl⟩
  exact (lineIsWiredAnd (s.setPin .driveLow)).1.mpr (.inl rfl)

/-! ## `sampleBit` (R137) -/

theorem exec_sampleBit (s : State) : exec .sampleBit s = .next s.rxLow := rfl

/-- Settles O12: `sampleBit` is its first edge wait, which at a low line is at once the second. -/
theorem sampleBitBegins : Obligations.SampleBitBegins := by
  intro s
  rw [exec_sampleBit]
  exact ⟨fun hl => congrArg _ (rxLow_high s hl), fun hl => congrArg _ (rxLow_low s hl)⟩

/-- At a low line the first edge wait is over. -/
theorem rxLow_eq_rxHigh {s : State} (hl : s.line = 0#1) : s.rxLow = s.rxHigh := by
  rw [rxLow_low s hl, rxHigh_low s hl]

/-! ### Loops of one tick a turn -/

/-- Time passes and nothing else. -/
def State.after (s : State) (n : Nat) : State := { s with now := s.now + n }

theorem after_after (s : State) (m n : Nat) : (s.after m).after n = s.after (m + n) := by
  simp [State.after, Nat.add_assoc]

theorem State.QuietRst.after {s : State} {m n : Nat} (k : Nat) (h : s.QuietRst n) (hm : k + m ≤ n) :
    (s.after k).QuietRst m :=
  h.later rfl k rfl hm

/-- The statement `q` is a turn of `loop`, which loads the timer and the control point afresh. -/
structure TickLoop (q : SeqTask) (loop : State → State) : Prop where
  run : ∀ s, runSeq q s = .next (loop s)
  hold : ∀ s p n, loop (s.hold p n) = loop s

/-- In `s` the loop waits one tick and then takes another turn. -/
def State.LoopsAgain (s : State) (q : SeqTask) (loop : State → State) : Prop :=
  ∃ p, loop s = (s.push [.seq q]).hold p 1

/-- As long as the loop waits, ticks pass and nothing else happens. -/
theorem TickLoop.runs {q : SeqTask} {loop : State → State} (hloop : TickLoop q loop) (n : Nat) {s : State}
    (hq : s.QuietRst n) (hwait : ∀ d, d < n → (s.after d).LoopsAgain q loop) :
    Runs (loop s) (List.replicate n (s.wiresAt s.pinMode)) (loop (s.after n)) := by
  induction n generalizing s with
  | zero => exact Runs.refl _
  | succ n ih =>
    obtain ⟨p, hturn : loop s = (s.push [.seq q]).hold p 1⟩ := hwait 0 (Nat.succ_pos n)
    have hlater : Runs (loop (s.after 1)) (List.replicate n (s.wiresAt s.pinMode)) (loop (s.after (n + 1))) := by
      have hrest := ih (hq.after 1 (by omega)) fun d hd => after_after s 1 d ▸ hwait (1 + d) (by omega)
      rwa [after_after, Nat.add_comm] at hrest
    have hnext : runTask (.seq q) ((s.after 1).hold p 0) = .next (loop (s.after 1)) :=
      (hloop.run _).trans (congrArg _ (hloop.hold _ p 0))
    rw [hturn, List.replicate_succ]
    exact runs_tick_task rfl (hq.mono (by omega)) rfl hnext hlater rfl

theorem tickLoop_rxLow : TickLoop .rxLow State.rxLow := ⟨fun _ => rfl, fun _ _ _ => rfl⟩
theorem tickLoop_rxHigh : TickLoop .rxHigh State.rxHigh := ⟨fun _ => rfl, fun _ _ _ => rfl⟩

/-- The first edge wait lasts as long as the line is high. -/
theorem runs_rxLow_while_high (n : Nat) {s : State} (hm : s.pinMode = .release) (hq : s.QuietRst n)
    (hp : ∀ d, d < n → s.env.periphLow (s.now + d) = false) :
    Runs s.rxLow (List.replicate n (s.wiresAt .release)) (s.after n).rxLow :=
  hm ▸ tickLoop_rxLow.runs n hq fun d hd => ⟨_, rxLow_high (s.after d) (line_high hm (hp d hd))⟩

/-- The second edge wait lasts as long as the line is low. -/
theorem runs_rxHigh_while_low (n : Nat) {s : State} (hm : s.pinMode = .release) (hq : s.QuietRst n)
    (hp : ∀ d, d < n → s.env.periphLow (s.now + d) = true) :
    Runs s.rxHigh (List.replicate n (s.wiresAt .release)) (s.after n).rxHigh :=
  hm ▸ tickLoop_rxHigh.runs n hq fun d hd => ⟨_, rxHigh_low (s.after d) (line_low (hp d hd))⟩

/-! ### The sample -/

/-- From the tick at which the line is high again, the offset and the sample at its end. -/
theorem runs_rxHigh_sample {s : State} (hm : s.pinMode = .release) (hp : s.env.periphLow s.now = false)
    (hq : s.QuietRst (s.cfg.ticks s.cfg.tSampleOffset)) :
    Runs s.rxHigh (List.replicate (s.cfg.ticks s.cfg.tSampleOffset) (s.wiresAt .release))
      { s with
        timer := 0
        retBit := s.env.line .release (s.now + s.cfg.ticks s.cfg.tSampleOffset)
        now := s.now + s.cfg.ticks s.cfg.tSampleOffset
        ctl := { s.ctl with point := .rxOffset (s.bitCnt - 1) } } := by
  rw [rxHigh_high s (line_high hm hp), ← hm, ← List.append_nil (List.replicate _ _)]
  refine Runs.trans (runs_hold (s := { s with
    timer := s.cfg.ticks s.cfg.tSampleOffset
    ctl := { s.ctl with point := .rxOffset (s.bitCnt - 1), rest := .seq .rxTake :: s.ctl.rest } }) _ rfl hq) ?_
  exact runs_task (hq _ le_rfl) rfl (.seq .rxTake) s.ctl.rest rfl rfl (Runs.refl _)

theorem quietPorts_replicate (s : State) (m : PinMode) (n : Nat) :
    QuietPorts s (List.replicate n (s.wiresAt m)) := by
  intro w hw
  rw [List.eq_of_mem_replicate hw]
  exact ⟨rfl, rfl, rfl⟩

theorem quietPorts_append {s : State} {ws vs : List Wires} (h : QuietPorts s ws) (h' : QuietPorts s vs) :
    QuietPorts s (ws ++ vs) := fun w hw => (List.mem_append.mp hw).elim (h w) (h' w)

/-- Settles O33: the first edge wait through the high ticks, the second through the low ones, then the offset. -/
theorem sampleBitAtOffset : Obligations.SampleBitAtOffset := by
  intro s high low hm hlow hhigh hlows hagain hq
  have hfirst := runs_rxLow_while_high high hm (hq.mono (by omega)) hhigh
  rw [rxLow_eq_rxHigh (line_low (s := s.after high) (hlows 0 hlow))] at hfirst
  have hsecond := runs_rxHigh_while_low low (s := s.after high) hm (hq.after high (by omega)) hlows
  have hsample := runs_rxHigh_sample (s := (s.after high).after low) hm hagain
    ((hq.after high (Nat.add_assoc ..).ge).after low le_rfl)
  have hports : ∀ n, QuietPorts s (List.replicate n (s.wiresAt .release)) := quietPorts_replicate s .release
  exact ⟨_, _, exec_sampleBit s, hfirst.trans (hsecond.trans hsample),
    quietPorts_append (hports high) (quietPorts_append (hports low) (hports _))⟩

end Sys2Proof.Machine

namespace Sys2Proof.Machine

/-! ## The symbols, run to their end (40_bit_signaling.md R134, R135, R136) -/

/-- A symbol plays its two phases, leaves the collaborators' wires alone, and changes nothing but the pin, time and the
control point. -/
theorem symbol_waveform (s : State) (pL pH : Point) (nL nH : Nat)
    (hq : s.QuietRst (waveTicks [(.driveLow, nL), (.release, nH)])) :
    ∃ ws : List Wires,
      Runs (s.symbol pL nL pH nH) ws { s with
        pinMode := .release, timer := 0, now := s.now + waveTicks [(.driveLow, nL), (.release, nH)]
        ctl := { s.ctl with point := pH } }
      ∧ ws.map Wires.pin = expand [(.driveLow, nL), (.release, nH)] ∧ QuietPorts s ws :=
  ⟨_, runs_symbol s pL nL pH nH hq, waveWires_pin s _, waveWires_ports s _⟩

/-- The five operations that emit a cell (log entry 16 gives their points). -/
theorem exec_cell {s : State} {b : Bit} {i : Instr}
    (hi : i = .emitBit b ∨ (i = .bit0 ∧ b = 0#1) ∨ (i = .bit1 ∧ b = 1#1) ∨ (i = .stop ∧ b = s.cfg.stopBit)
      ∨ (i = .start ∧ b = s.cfg.startBit)) :
    ∃ pL pH, exec i s = .next (s.cell pL pH b) := by
  rcases hi with rfl | ⟨rfl, rfl⟩ | ⟨rfl, rfl⟩ | ⟨rfl, rfl⟩ | ⟨rfl, rfl⟩
  · exact ⟨_, _, exec_emitBit s b⟩
  · exact ⟨_, _, exec_bit0 s⟩
  · exact ⟨_, _, exec_bit1 s⟩
  · exact ⟨_, _, exec_stop s⟩
  · exact ⟨_, _, exec_start s⟩

/-- Settles O26: each of the five operations begins a cell, and a cell is a symbol. -/
theorem cellWaveform : Obligations.CellWaveform := by
  intro s b i hi hq
  obtain ⟨pL, pH, hexec⟩ := exec_cell hi
  rw [← cellWave_ticks] at hq ⊢
  obtain ⟨ws, hrun, hpin, hports⟩ := symbol_waveform s pL pH (s.cfg.cellLow b) (s.cfg.cellHigh b) hq
  exact ⟨_, ws, pH, hexec, hrun, hpin, hports⟩

theorem exec_attention {s : State} {i : Instr} (hi : i = .attnSync ∨ i = .emitAttention) :
    exec i s = .next s.attention := by
  rcases hi with rfl | rfl
  · exact exec_attnSync s
  · exact exec_emitAttention s

theorem exec_resetPulse {s : State} {i : Instr} (hi : i = .reset ∨ i = .emitResetPulse) :
    exec i s = .next s.resetPulse := by
  rcases hi with rfl | rfl
  · exact exec_reset s
  · exact exec_emitResetPulse s

/-- Settles O27: attention and the reset pulse are symbols. -/
theorem attentionAndResetWaveforms : Obligations.AttentionAndResetWaveforms := by
  refine fun s => ⟨fun i hi hq => ?_, fun i hi hq => ?_⟩
  · obtain ⟨ws, hws⟩ := symbol_waveform s .attnLow .syncHigh _ _ hq
    exact ⟨_, ws, exec_attention hi, hws⟩
  · obtain ⟨ws, hws⟩ := symbol_waveform s .resetLow .resetSettle _ _ hq
    exact ⟨_, ws, exec_resetPulse hi, hws⟩

end Sys2Proof.Machine

namespace Sys2Proof.Machine

/-! ## Other inputs (40_bit_signaling.md R139, 70_reset_and_hazards.md R294) -/

/-- A state under other inputs. -/
def State.withEnv (s : State) (e : Env) : State := { s with env := e }

/-- The answer of a step under other inputs: the same reason, or the same next state but for the inputs. -/
def underEnv (e : Env) : Host.Outcome State Fault Refusal → Host.Outcome State Fault Refusal
  | .next t => .next (t.withEnv e)
  | .fault r => .fault r
  | .refused r => .refused r

/-! ### The equations of the end of a poll and of an ended program -/

theorem runPlCheck_silent {s : State} (ho : s.outcome ≠ .response) : runPlCheck s = .next s.plIdle := if_neg ho

theorem runPlCheck_answered {s : State} {w : BitVec 16} (ho : s.outcome = .response) (hw : s.rxWord = some w) :
    runPlCheck s = .next ((s.push [.seq .plIdle]).decodeWord w) := by
  simp [runPlCheck, ho, hw]

theorem runPlCheck_noWord {s : State} (ho : s.outcome = .response) (hw : s.rxWord = none) :
    runPlCheck s = .refused .rxWordNoValue := by
  simp [runPlCheck, ho, hw]

theorem step_ended {s : State} (hr : s.rst = false) (ht : s.timer = 0) (hq : s.ctl.rest = []) :
    step s = .refused .programEnded := by
  simp [step, hr, ht, hq]

/-! ### What does not listen -/

section
variable {s : State} {e : Env}

theorem sendBits_withEnv (f : TxField) : (s.withEnv e).sendBits f = (s.sendBits f).withEnv e := by
  cases h : s.bitCnt with
  | zero => rw [sendBits_stop s f h, sendBits_stop (s.withEnv e) f h]; rfl
  | succ i => rw [sendBits_bit s f i h, sendBits_bit (s.withEnv e) f i h]; rfl

theorem hookEmit_withEnv (h : HookEvent) : (s.withEnv e).hookEmit h = (s.hookEmit h).withEnv e := by
  cases h <;> rfl

theorem dropHook_withEnv (h : HookEvent) : (s.withEnv e).dropHook h = (s.dropHook h).withEnv e := by
  cases h <;> rfl

variable (hready : e.hostReady s.now = s.env.hostReady s.now)
include hready

theorem hostEmit_withEnv (c : HostCall) : (s.withEnv e).hostEmit c = (s.hostEmit c).withEnv e := by
  cases h : s.hostReady with
  | true => rw [hostEmit_ready s c h, hostEmit_ready (s.withEnv e) c (hready.trans h)]; rfl
  | false => rw [hostEmit_busy s c h, hostEmit_busy (s.withEnv e) c (hready.trans h)]; rfl

theorem toggleKey_withEnv : (s.withEnv e).toggleKey = s.toggleKey.withEnv e :=
  hostEmit_withEnv (s := s.flipCaps.push [.op .writeIndicators]) hready _

theorem lookupKey_withEnv (rel : Bit) (scan : BitVec 7) :
    (s.withEnv e).lookupKey rel scan = (s.lookupKey rel scan).withEnv e := by
  cases hk : s.cfg.keymapAt scan with
  | none => rw [lookupKey_none s rel scan hk, lookupKey_none (s.withEnv e) rel scan hk]; rfl
  | some k =>
    by_cases hcaps : k = s.cfg.keyCaps ∧ s.cfg.togglesOn rel = true
    · obtain ⟨rfl, ht⟩ := hcaps
      rw [lookupKey_caps s rel scan hk ht, lookupKey_caps (s.withEnv e) rel scan hk ht]
      exact toggleKey_withEnv (s := s.presentScan scan) hready
    · have hplain : k ≠ s.cfg.keyCaps ∨ s.cfg.togglesOn rel = false := by
        simpa using not_and_or.mp hcaps
      rw [lookupKey_plain s rel scan k hk hplain, lookupKey_plain (s.withEnv e) rel scan k hk hplain]
      exact hostEmit_withEnv (s := s.presentScan scan) hready _

theorem decodeSlot_withEnv (b : Byte) : (s.withEnv e).decodeSlot b = (s.decodeSlot b).withEnv e := by
  by_cases hhook : s.cfg.powerKeyDetect = .scan7F ∧ eventScan b = scanSentinel
  · obtain ⟨hp, hs⟩ := hhook
    rw [decodeSlot_hook s b hp hs, decodeSlot_hook (s.withEnv e) b hp hs, hookEmit_withEnv]
  · have hlookup : s.cfg.powerKeyDetect = .never ∨ eventScan b ≠ scanSentinel := by
      cases hp : s.cfg.powerKeyDetect with
      | never => exact .inl rfl
      | scan7F => exact .inr fun hs => hhook ⟨hp, hs⟩
    rw [decodeSlot_lookup s b hlookup, decodeSlot_lookup (s.withEnv e) b hlookup, lookupKey_withEnv hready]

theorem decodeWord_withEnv (w : BitVec 16) : (s.withEnv e).decodeWord w = (s.decodeWord w).withEnv e :=
  decodeSlot_withEnv (s := (s.beginSlot 0).push [.seq (.decodeSecond (slot1 w))]) hready (slot0 w)

theorem buCheck_withEnv : (s.withEnv e).buCheck = s.buCheck.withEnv e := by
  by_cases ho : s.outcome = .response
  · rw [buCheck_response s ho, buCheck_response (s.withEnv e) ho]
    exact hostEmit_withEnv (s := s.enter .buActivate) hready _
  · rw [buCheck_retry s ho, buCheck_retry (s.withEnv e) ho]; rfl

theorem runPlCheck_withEnv : runPlCheck (s.withEnv e) = underEnv e (runPlCheck s) := by
  by_cases ho : s.outcome = .response
  · cases hw : s.rxWord with
    | none => rw [runPlCheck_noWord ho hw, runPlCheck_noWord (s := s.withEnv e) ho hw]; rfl
    | some w =>
      rw [runPlCheck_answered ho hw, runPlCheck_answered (s := s.withEnv e) ho hw]
      exact congrArg _ (decodeWord_withEnv (s := s.push [.seq .plIdle]) hready w)
  · rw [runPlCheck_silent ho, runPlCheck_silent (s := s.withEnv e) ho]; rfl

/-- An operation that does not listen. -/
theorem exec_withEnv (i : Instr) (hl : listens (.op i) = false) :
    exec i (s.withEnv e) = underEnv e (exec i s) := by
  cases i with
  | sense | sampleBit => cases hl
  | emitCommand a code r =>
    rw [exec_emitCommand, exec_emitCommand, apply_ite (underEnv e)]; rfl
  | press | release | writeAndAutoRelease | activate | hostEmit => exact congrArg _ (hostEmit_withEnv hready _)
  | powerKeyPress | powerKeyRelease | hookEmit => exact congrArg _ (hookEmit_withEnv _)
  | evPress | evRelease | evSentinel | evCaps | evUnmapped | decodeSlot =>
    exact congrArg _ (decodeSlot_withEnv hready _)
  | keyWord | decodeWord => exact congrArg _ (decodeWord_withEnv hready _)
  | _ => rfl

/-- A statement that does not listen. -/
theorem runSeq_withEnv (q : SeqTask) (hl : listens (.seq q) = false) :
    runSeq q (s.withEnv e) = underEnv e (runSeq q s) := by
  cases q with
  | waitBegin | waitNext | rxLow | rxHigh | rxTake | rxBit | rxShift => cases hl
  | sendBits f => exact congrArg _ (sendBits_withEnv f)
  | nextBit f => exact congrArg _ (sendBits_withEnv (s := s.countBit) f)
  | buCheck => exact congrArg _ (buCheck_withEnv hready)
  | plCheck => exact runPlCheck_withEnv hready
  | decodeSecond b => exact congrArg _ (decodeSlot_withEnv (s := s.beginSlot 1) hready b)
  | hostTry c => exact congrArg _ (hostEmit_withEnv hready c)
  | hookDone h => exact congrArg _ (dropHook_withEnv h)
  | play | writeGap | writeData | buRead | plIdle | hostDone => rfl

theorem runTask_withEnv (q : Task) (hl : listens q = false) :
    runTask q (s.withEnv e) = underEnv e (runTask q s) := by
  cases q with
  | op i => exact exec_withEnv hready i hl
  | seq q => exact runSeq_withEnv hready q hl

/-- A step that passes a tick, or whose head does not listen, reads `rst` and `host_ready` of the inputs alone. -/
theorem step_withEnv (hrst : e.rst = s.env.rst)
    (hl : s.isTick = true ∨ ∀ q ts, s.ctl.rest = q :: ts → listens q = false) :
    step (s.withEnv e) = underEnv e (step s) := by
  have hrst' : (s.withEnv e).rst = s.rst := congrArg (inSpans · s.now) hrst
  by_cases hr : s.rst = true
  · rw [step_rst s hr, step_rst (s.withEnv e) (hrst'.trans hr)]; rfl
  · rw [Bool.not_eq_true] at hr
    by_cases ht : s.timer = 0
    · cases hq : s.ctl.rest with
      | nil => rw [step_ended hr ht hq, step_ended (s := s.withEnv e) (hrst'.trans hr) ht hq]; rfl
      | cons q ts =>
        have hlq : listens q = false := (hl.resolve_left (by simp [State.isTick, hr, ht])) q ts hq
        rw [step_run s hr ht q ts hq, step_run (s.withEnv e) (hrst'.trans hr) ht q ts hq]
        exact runTask_withEnv (s := s.withRest ts) hready q hlq
    · rw [step_tick s hr ht, step_tick (s.withEnv e) (hrst'.trans hr) ht]; rfl

end

/-- Under the discipline of the pin a low phase has its release at the head, which does not listen. -/
theorem State.PinDiscipline.released_of_listens {s : State} {q : Task} {ts : List Task} (hs : s.PinDiscipline)
    (hq : s.ctl.rest = q :: ts) (hl : listens q = true) : s.pinMode = .release := by
  obtain ⟨-, hlow, -⟩ := hs
  cases hm : s.pinMode with
  | release => rfl
  | driveLow =>
    obtain ⟨p, n, us, hrest⟩ := hlow hm
    obtain ⟨rfl, -⟩ := List.cons.inj (hq.symm.trans hrest)
    cases hl

/-- Settles O48: every task but the listening ones reads the inputs through `host_ready` alone, and the discipline of the
pin leaves no listening task at the head of a low phase. -/
theorem senseOnlyWhileReleased : Obligations.SenseOnlyWhileReleased := by
  refine ⟨fun s e hrst hready hl => ?_, fun s t q ts hs _ hq hl _ => ?_⟩
  · have hstep := step_withEnv hready hrst hl
    exact ⟨fun t ht => hstep.trans (congrArg (underEnv e) ht), fun r hr => hstep.trans (congrArg (underEnv e) hr)⟩
  · have hm := hs.released_of_listens hq hl
    exact ⟨hm, line_eq_zero_iff_of_released hm⟩

end Sys2Proof.Machine

namespace Sys2Proof.Machine

/-! ## How the frames begin (41_command_protocol.md R162, R164, R166) -/

theorem command_begun (s : State) (a : BitVec 4) (code r : BitVec 2) :
    s.command a code r = commandBegun s a code r [] := rfl

theorem sendWrite_begun (s : State) (a : BitVec 4) (r : BitVec 2) (d : BitVec 16) :
    s.sendWrite a r d = writeBegun s a r d := by
  rw [sendWrite_eq]; rfl

theorem sendRead_begun (s : State) (a : BitVec 4) (r : BitVec 2) :
    s.sendRead a r = commandBegun s a s.cfg.cmdRead r [.seq .waitBegin] := by
  rw [sendRead_eq]; rfl

theorem writeIndicators_eq (s : State) :
    s.writeIndicators = s.sendWrite s.cfg.deviceAddr s.cfg.regLeds
      (s.cfg.indicatorWord s.indNum s.indCaps s.indScroll) := rfl

theorem exec_emitCommand_of_code {s : State} (a : BitVec 4) {code : BitVec 2} (r : BitVec 2)
    (h : code = s.cfg.cmdWrite ∨ code = s.cfg.cmdRead) :
    exec (.emitCommand a code r) s = .next (s.command a code r) := by
  rw [exec_emitCommand, if_pos ((isCommandCode_iff _ _).mpr h)]

theorem exec_sendWrite (s : State) (a : BitVec 4) (r : BitVec 2) (d : BitVec 16) :
    exec (.sendWrite a r d) s = .next (s.sendWrite a r d) := rfl

theorem exec_write (s : State) (a : BitVec 4) (r : BitVec 2) (d : BitVec 16) :
    exec (.write a r d) s = .next (s.sendWrite a r d) := rfl

theorem exec_writeIndicators (s : State) : exec .writeIndicators s = .next s.writeIndicators := rfl

theorem exec_writeLeds (s : State) : exec .writeLeds s = .next s.writeIndicators := rfl

theorem exec_ledWord (s : State) (sc ca nu : Bit) :
    exec (.ledWord sc ca nu) s = .next (s.sendWrite s.cfg.deviceAddr s.cfg.regLeds (ledWordOf sc ca nu)) := rfl

theorem exec_sendReadRequest (s : State) (a : BitVec 4) (r : BitVec 2) :
    exec (.sendReadRequest a r) s = .next (s.sendRead a r) := rfl

theorem exec_read (s : State) (a : BitVec 4) (r : BitVec 2) : exec (.read a r) s = .next (s.sendRead a r) := rfl

theorem exec_readBringup (s : State) :
    exec .readBringup s = .next (s.sendRead s.cfg.deviceAddr s.cfg.regBringup) := rfl

theorem exec_readKeys (s : State) : exec .readKeys s = .next (s.sendRead s.cfg.deviceAddr s.cfg.regKeys) := rfl

/-- Settles O13: the code passes the test, and the frame begins. -/
theorem emitCommandBegins : Obligations.EmitCommandBegins := by
  intro s a code r hcode
  rw [exec_emitCommand_of_code a r hcode, command_begun]

/-- Settles O15: each of the five is `sendWrite` of its operands. -/
theorem writesBegin : Obligations.WritesBegin := by
  refine fun s => ⟨fun a r d => ⟨?_, ?_⟩, ?_, ?_, fun sc ca nu => ?_⟩
  · rw [exec_sendWrite, sendWrite_begun]
  · rw [exec_write, sendWrite_begun]
  · rw [exec_writeIndicators, writeIndicators_eq, sendWrite_begun]
  · rw [exec_writeLeds, writeIndicators_eq, sendWrite_begun]
  · rw [exec_ledWord, sendWrite_begun, ledWordOf]

/-- Settles O16: each of the four is `sendRead` of its operands. -/
theorem readsBegin : Obligations.ReadsBegin := by
  refine fun s => ⟨fun a r => ⟨?_, ?_⟩, ?_, ?_⟩
  · rw [exec_sendReadRequest, sendRead_begun]
  · rw [exec_read, sendRead_begun]
  · rw [exec_readBringup, sendRead_begun]
  · rw [exec_readKeys, sendRead_begun]

end Sys2Proof.Machine

namespace Sys2Proof.Machine

/-! ## A waveform that has been played -/

/-- The ticks of a waveform have passed, the pin is released, and nothing else has changed but the control point. -/
def State.played (s : State) (w : List Segment) (p : Point) : State :=
  { s with pinMode := .release, timer := 0, now := s.now + waveTicks w, ctl := { s.ctl with point := p } }

theorem played_played (s : State) (v w : List Segment) (p q : Point) :
    (s.played v p).played w q = s.played (v ++ w) q := by
  simp [State.played, waveTicks_append, Nat.add_assoc]

theorem State.QuietRst.played {s : State} {v w : List Segment} (h : s.QuietRst (waveTicks (v ++ w))) (p : Point) :
    (s.played v p).QuietRst (waveTicks w) :=
  h.later rfl (waveTicks v) rfl (waveTicks_append v w).ge

theorem State.QuietRst.of_append {s : State} {v w : List Segment} (h : s.QuietRst (waveTicks (v ++ w))) :
    s.QuietRst (waveTicks v) :=
  h.mono (by rw [waveTicks_append]; exact Nat.le_add_right _ _)

theorem runs_cell (s : State) (pL pH : Point) (b : Bit) (hq : s.QuietRst (waveTicks (cellWave s.cfg b))) :
    Runs (s.cell pL pH b) (s.waveWires (cellWave s.cfg b)) (s.played (cellWave s.cfg b) pH) :=
  runs_symbol s pL _ pH _ hq

theorem runs_attention (s : State) (hq : s.QuietRst (waveTicks (attentionWave s.cfg))) :
    Runs s.attention (s.waveWires (attentionWave s.cfg)) (s.played (attentionWave s.cfg) .syncHigh) :=
  runs_symbol s .attnLow _ .syncHigh _ hq

/-- The gap as a waveform (30_encoding.md R95). -/
def gapSegment (p : Params) : List Segment := [(.release, p.ticks p.tGap)]

theorem runs_gapHigh (s : State) (hq : s.QuietRst (waveTicks (gapSegment s.cfg))) :
    Runs s.gapHigh (s.waveWires (gapSegment s.cfg)) (s.played (gapSegment s.cfg) .gap) := by
  rw [gapSegment, waveWires_cons, waveWires_nil, List.append_nil]
  exact runs_hold (s := s.gapHigh) (s.cfg.ticks s.cfg.tGap) rfl hq

/-- After a waveform the next task runs at its last tick, and the run goes on from the state it leaves. -/
theorem runs_played_task {s t u v : State} {w : List Segment} {ws : List Wires} {p : Point} {q : SeqTask}
    (hrun : Runs t (s.waveWires w) ((s.push [.seq q]).played w p)) (hq : s.QuietRst (waveTicks w))
    (hnext : runSeq q (s.played w p) = .next u) (hlater : Runs u ws v) : Runs t (s.waveWires w ++ ws) v :=
  hrun.trans (runs_task (hq _ le_rfl) rfl (.seq q) s.ctl.rest rfl hnext hlater)

/-! ## The frames (30_encoding.md R97, R98) -/

/-- The last `n` bits of a field, most significant first, and the stop bit. -/
def State.fieldWave (s : State) (f : TxField) (n : Nat) : List Segment :=
  bitsWave s.cfg ((List.range n).reverse.map (s.txBit f) ++ [s.cfg.stopBit])

theorem fieldWave_zero (s : State) (f : TxField) : s.fieldWave f 0 = cellWave s.cfg s.cfg.stopBit :=
  List.append_nil _

theorem fieldWave_succ (s : State) (f : TxField) (n : Nat) :
    s.fieldWave f (n + 1) = cellWave s.cfg (s.txBit f n) ++ s.fieldWave f n := by
  rw [State.fieldWave, List.range_succ, List.reverse_append]
  exact bitsWave_cons _ _ _

/-- The bits of a field that remain, then its stop bit. -/
theorem runs_sendBits (f : TxField) (n : Nat) {s : State} (hn : s.bitCnt = n)
    (hq : s.QuietRst (waveTicks (s.fieldWave f n))) :
    Runs (s.sendBits f) (s.waveWires (s.fieldWave f n))
      ((s.loadBits 0).played (s.fieldWave f n) (stopHighPoint f)) := by
  induction n generalizing s with
  | zero =>
    rw [fieldWave_zero] at hq ⊢
    have hdone : s.loadBits 0 = s := by rw [← hn]; rfl
    rw [sendBits_stop s f hn, hdone]
    exact runs_cell s _ _ _ hq
  | succ n ih =>
    rw [fieldWave_succ] at hq ⊢
    have hcell := runs_cell (s.push [.seq (.nextBit f)]) (bitLowPoint f n) (bitHighPoint f n) (s.txBit f n)
      hq.of_append
    have hlater := ih (s := (s.played (cellWave s.cfg (s.txBit f n)) (bitHighPoint f n)).countBit)
      (Nat.sub_eq_of_eq_add hn) (hq.played (bitHighPoint f n))
    rw [sendBits_bit s f n hn, waveWires_append, ← played_played _ _ _ (bitHighPoint f n)]
    exact runs_played_task hcell hq.of_append rfl hlater

/-- A whole field sends the bits of its word. -/
theorem fieldWave_cmd (s : State) :
    s.fieldWave .cmd 8 = bitsWave s.cfg (msbFirst 8 s.txCmd ++ [s.cfg.stopBit]) := by
  rw [State.fieldWave, msbFirst_eq_map 8 (s.txBit .cmd) s.txCmd fun _ _ => rfl]

theorem fieldWave_data (s : State) :
    s.fieldWave .data 16 = bitsWave s.cfg (msbFirst 16 s.txData ++ [s.cfg.stopBit]) := by
  rw [State.fieldWave, msbFirst_eq_map 16 (s.txBit .data) s.txData fun _ _ => rfl]

/-- What a command frame leaves. -/
def State.commandSent (s : State) (a : BitVec 4) (code r : BitVec 2) : State :=
  ((s.loadCmd a code r).loadBits 0).played (commandWave s.cfg a code r) .cstopHigh

theorem runs_command (s : State) (a : BitVec 4) (code r : BitVec 2)
    (hq : s.QuietRst (waveTicks (commandWave s.cfg a code r))) :
    Runs (s.command a code r) (s.waveWires (commandWave s.cfg a code r)) (s.commandSent a code r) := by
  have hattn := runs_attention (((s.loadCmd a code r).loadBits 8).push [.seq (.sendBits .cmd)]) hq.of_append
  have hbits := runs_sendBits .cmd 8
    (s := ((s.loadCmd a code r).loadBits 8).played (attentionWave s.cfg) .syncHigh) rfl
    (by rw [fieldWave_cmd]; exact hq.played .syncHigh)
  rw [fieldWave_cmd] at hbits
  rw [State.commandSent, commandWave, waveWires_append, ← played_played _ _ _ .syncHigh]
  exact runs_played_task (s := (s.loadCmd a code r).loadBits 8) hattn hq.of_append rfl hbits

/-- Settles O28: the frame is attention, then the field of the command byte. -/
theorem commandFrameWaveform : Obligations.CommandFrameWaveform := fun s a code r hcode hq =>
  ⟨_, _, exec_emitCommand_of_code a r hcode, runs_command s a code r hq, waveWires_pin s _, waveWires_ports s _⟩

/-- The start cell and the payload of a write. -/
def payloadWave (p : Params) (d : BitVec 16) : List Segment :=
  bitsWave p ([p.startBit] ++ msbFirst 16 d ++ [p.stopBit])

theorem payloadWave_eq (p : Params) (d : BitVec 16) :
    payloadWave p d = cellWave p p.startBit ++ bitsWave p (msbFirst 16 d ++ [p.stopBit]) :=
  bitsWave_cons _ _ _

theorem runs_writeData (s : State) (hq : s.QuietRst (waveTicks (payloadWave s.cfg s.txData))) :
    Runs s.writeData (s.waveWires (payloadWave s.cfg s.txData))
      ((s.loadBits 0).played (payloadWave s.cfg s.txData) .dstopHigh) := by
  rw [payloadWave_eq] at hq ⊢
  have hstart := runs_cell ((s.loadBits 16).push [.seq (.sendBits .data)]) .dstartLow .dstartHigh s.cfg.startBit
    hq.of_append
  have hbits := runs_sendBits .data 16
    (s := (s.loadBits 16).played (cellWave s.cfg s.cfg.startBit) .dstartHigh) rfl
    (by rw [fieldWave_data]; exact hq.played .dstartHigh)
  rw [fieldWave_data] at hbits
  rw [waveWires_append, ← played_played _ _ _ .dstartHigh]
  exact runs_played_task (s := s.loadBits 16) hstart hq.of_append rfl hbits

theorem runs_writeGap (s : State) (hq : s.QuietRst (waveTicks (gapSegment s.cfg ++ payloadWave s.cfg s.txData))) :
    Runs s.writeGap (s.waveWires (gapSegment s.cfg ++ payloadWave s.cfg s.txData))
      ((s.loadBits 0).played (gapSegment s.cfg ++ payloadWave s.cfg s.txData) .dstopHigh) := by
  rw [waveWires_append, ← played_played _ _ _ .gap]
  exact runs_played_task (runs_gapHigh (s.push [.seq .writeData]) hq.of_append) hq.of_append rfl
    (runs_writeData (s.played (gapSegment s.cfg) .gap) (hq.played .gap))

theorem writeWave_eq (p : Params) (a : BitVec 4) (r : BitVec 2) (d : BitVec 16) :
    writeWave p a r d = commandWave p a p.cmdWrite r ++ (gapSegment p ++ payloadWave p d) :=
  List.append_assoc _ _ _

theorem runs_sendWrite (s : State) (a : BitVec 4) (r : BitVec 2) (d : BitVec 16)
    (hq : s.QuietRst (waveTicks (writeWave s.cfg a r d))) :
    Runs (s.sendWrite a r d) (s.waveWires (writeWave s.cfg a r d))
      ((((s.loadData d).loadCmd a s.cfg.cmdWrite r).loadBits 0).played (writeWave s.cfg a r d) .dstopHigh) := by
  rw [writeWave_eq] at hq ⊢
  rw [waveWires_append, ← played_played _ _ _ .cstopHigh]
  exact runs_played_task (s := ((s.loadData d).loadCmd a s.cfg.cmdWrite r).loadBits 0)
    (runs_command ((s.loadData d).push [.seq .writeGap]) a s.cfg.cmdWrite r hq.of_append) hq.of_append rfl
    (runs_writeGap ((s.loadData d).commandSent a s.cfg.cmdWrite r) (hq.played .cstopHigh))

/-- Settles O29: the command frame, the gap, then the start cell and the field of the data word. -/
theorem writeFrameWaveform : Obligations.WriteFrameWaveform := fun s a r d hq =>
  ⟨_, _, exec_sendWrite s a r d, runs_sendWrite s a r d hq, waveWires_pin s _, waveWires_ports s _⟩

end Sys2Proof.Machine

namespace Sys2Proof.Machine

/-! ## The bounded wait (41_command_protocol.md R166, R167) -/

/-- `n` polls have seen the line high: their ticks have passed, and nothing else has changed but the count of polls and
the control point. -/
def State.polled (s : State) (n : Nat) (p : Point) : State :=
  { s with timer := 0, waitCnt := s.waitCnt - n, now := s.now + n, ctl := { s.ctl with point := p } }

theorem polled_zero {s : State} (ht : s.timer = 0) : s.polled 0 s.ctl.point = s := by
  cases s
  subst ht
  rfl

theorem polled_polled (s : State) (m n : Nat) (p q : Point) : (s.polled m p).polled n q = s.polled (m + n) q := by
  simp [State.polled, Nat.add_assoc, Nat.sub_sub]

theorem State.QuietRst.polled {s : State} {n : Nat} (h : s.QuietRst (n + 1)) (p : Point) :
    (s.polled 1 p).QuietRst n :=
  h.later rfl 1 rfl (Nat.add_comm 1 n).le

/-- The wait goes on as long as the line is high and polls are left. -/
theorem runs_waitPoll_while_high (n : Nat) {s : State} (hm : s.pinMode = .release) (ht : s.timer = 0)
    (hn : n ≤ s.waitCnt) (hp : Silent s.env s.now n) (hq : s.QuietRst n) :
    ∃ p, Runs s.waitPoll (List.replicate n (s.wiresAt .release)) (s.polled n p).waitPoll := by
  induction n generalizing s with
  | zero => exact ⟨s.ctl.point, by rw [polled_zero ht]; exact Runs.refl _⟩
  | succ n ih =>
    have hline : s.line = 1#1 := line_high hm (hp _ le_rfl (by omega))
    obtain ⟨p, hlater⟩ := ih (s := s.polled 1 .waitStart) hm rfl (Nat.le_sub_one_of_lt hn)
      (fun t hle hlt => hp t (Nat.le_of_succ_le hle) (hlt.trans_eq (by simp [State.polled]; omega)))
      (hq.polled .waitStart)
    rw [polled_polled, Nat.add_comm] at hlater
    refine ⟨p, ?_⟩
    rw [waitPoll_again s (by omega) (by simp [hline]), List.replicate_succ]
    exact runs_tick_task rfl (hq.mono (by omega)) rfl rfl hlater (congrArg s.wiresAt hm)

/-- What the bounded wait of a read begun in `s` starts from. -/
def State.waiting (s : State) (a : BitVec 4) (r : BitVec 2) : State :=
  { s.commandSent a s.cfg.cmdRead r with waitCnt := polls s }

/-- A read sends its frame and polls; the run is followed to the poll after `n` that see the line high. -/
theorem runs_sendRead_while_high {s : State} {a : BitVec 4} {r : BitVec 2} {n : Nat} (hn : n ≤ polls s)
    (hp : Silent s.env (waitFrom s a r) n)
    (hq : s.QuietRst (waveTicks (commandWave s.cfg a s.cfg.cmdRead r) + n)) :
    ∃ p, Runs (s.sendRead a r) (s.waveWires (commandWave s.cfg a s.cfg.cmdRead r ++ [(.release, n)]))
      ((s.waiting a r).polled n p).waitPoll := by
  obtain ⟨p, hwait⟩ := runs_waitPoll_while_high n (s := s.waiting a r) rfl rfl hn hp (hq.later rfl _ rfl le_rfl)
  refine ⟨p, ?_⟩
  rw [waveWires_append, waveWires_cons, waveWires_nil, List.append_nil]
  exact runs_played_task (s := (s.loadCmd a s.cfg.cmdRead r).loadBits 0)
    (runs_command (s.push [.seq .waitBegin]) a s.cfg.cmdRead r (hq.mono (Nat.le_add_right _ _)))
    (hq.mono (Nat.le_add_right _ _)) rfl hwait

theorem exec_readOf {s : State} {a : BitVec 4} {r : BitVec 2} {i : Instr}
    (hi : i = .sendReadRequest a r ∨ i = .read a r) : exec i s = .next (s.sendRead a r) := by
  rcases hi with rfl | rfl
  · exact exec_sendReadRequest s a r
  · exact exec_read s a r

/-- When all the polls have seen the line high the wait times out. -/
theorem waitPoll_polled_all {s : State} {n : Nat} (p : Point) (hn : s.waitCnt = n) :
    (s.polled n p).waitPoll =
      { s with
        timer := 0, waitCnt := 0, outcome := .timeout, now := s.now + n, ctl := { s.ctl with point := p } } := by
  have hzero : s.waitCnt - n = 0 := by rw [hn, Nat.sub_self]
  rw [waitPoll_timeout (s.polled n p) hzero, State.polled, hzero]

/-- Settles O30: every poll sees the line high, and the one after them finds the count at 0. -/
theorem readTimesOut : Obligations.ReadTimesOut := by
  intro s a r i hi hsilent hq
  obtain ⟨p, hrun⟩ := runs_sendRead_while_high le_rfl hsilent hq
  rw [waitPoll_polled_all (n := polls s) p rfl] at hrun
  exact ⟨_, _, p, exec_readOf hi, hrun, waveWires_pin s _, waveWires_ports s _⟩

/-- The start of a response has been found at poll `k` of a read begun in `s`. -/
def State.startDetected (s : State) (a : BitVec 4) (r : BitVec 2) (k : Nat) : State :=
  { s with
    pinMode := .release, timer := s.cfg.tRespSettle * s.cfg.ticksPerUs
    txCmd := cmdByte a s.cfg.cmdRead r, bitCnt := 16, waitCnt := polls s - k, rxWord := some 0#16
    now := waitFrom s a r + k
    ctl := { s.ctl with point := .rxSettle, rest := .seq .rxBit :: s.ctl.rest } }

theorem runs_sendRead_startDetected {s : State} {a : BitVec 4} {r : BitVec 2} {k : Nat} (hk : k < polls s)
    (hp : Silent s.env (waitFrom s a r) k) (hlow : s.env.periphLow (waitFrom s a r + k) = true)
    (hq : s.QuietRst (waveTicks (commandWave s.cfg a s.cfg.cmdRead r) + k)) :
    Runs (s.sendRead a r) (s.waveWires (commandWave s.cfg a s.cfg.cmdRead r ++ [(.release, k)]))
      (s.startDetected a r k) := by
  obtain ⟨p, hrun⟩ := runs_sendRead_while_high hk.le hp hq
  have hleft : ((s.waiting a r).polled k p).waitCnt ≠ 0 := Nat.sub_ne_zero_of_lt hk
  rwa [waitPoll_found _ hleft (line_low hlow)] at hrun

/-- Settles O31: the polls before it see the line high, and the one at a low line finds the start. -/
theorem readStartDetected : Obligations.ReadStartDetected := fun _ _ _ _ _ hi hk hsilent hlow hq =>
  ⟨_, _, exec_readOf hi, runs_sendRead_startDetected hk hsilent hlow hq⟩

end Sys2Proof.Machine

namespace Sys2Proof.Machine

/-! ## The bits of a received word (10_state.md R27) -/

theorem shiftIn_ofNat (n : Nat) (b : Bit) : shiftIn (BitVec.ofNat 16 n) b = BitVec.ofNat 16 (2 * n + b.toNat) := by
  apply BitVec.eq_of_toNat_eq
  have hb : b.toNat < 2 := b.isLt
  rw [shiftIn, toNat_append_eq, BitVec.extractLsb'_toNat, BitVec.toNat_ofNat, BitVec.toNat_ofNat,
    Nat.shiftRight_zero]
  omega

theorem foldl_shiftIn (bs : List Bit) (n : Nat) :
    bs.foldl shiftIn (BitVec.ofNat 16 n) = BitVec.ofNat 16 (bs.foldl (fun acc b => 2 * acc + b.toNat) n) := by
  induction bs generalizing n with
  | nil => rfl
  | cons b bs ih => rw [List.foldl_cons, shiftIn_ofNat, ih, List.foldl_cons]

/-- Sixteen bits shifted in, most significant first, are the word. -/
theorem foldl_shiftIn_msbFirst (w : BitVec 16) : (msbFirst 16 w).foldl shiftIn 0#16 = w :=
  (foldl_shiftIn _ 0).trans (ofMsbFirst_msbFirst 16 w)

/-- The last bit on the line is the least significant. -/
theorem msbFirst_last (w : BitVec 16) : (msbFirst 16 w).take 15 ++ [w.extractLsb' 0 1] = msbFirst 16 w := by
  rw [← msbFirst_eq_map 16 (fun i => w.extractLsb' i 1) w fun _ _ => rfl]
  rfl

/-! ## The cells of a response on the line (20_memory.md R70, 41_command_protocol.md R173) -/

/-- The length of cells in ticks. -/
def bitsTicks (p : Params) (bs : List Bit) : Nat := waveTicks (bitsWave p bs)

theorem bitsTicks_cons (p : Params) (b : Bit) (bs : List Bit) :
    bitsTicks p (b :: bs) = p.cellTicks b + bitsTicks p bs := by
  rw [bitsTicks, bitsWave_cons, waveTicks_append, cellWave_ticks, bitsTicks]

theorem cellTicks_eq (p : Params) (b : Bit) : p.cellTicks b = p.cellLow b + p.cellHigh b := rfl

/-- From tick `t0` to the end of the cells of `bs`, which begin at tick `tf`, the peripheral pulls the line low in
their low phases alone, and no reset comes. -/
structure Sends (p : Params) (e : Env) (bs : List Bit) (t0 tf : Nat) : Prop where
  quiet : ∀ t, t0 ≤ t → t < tf + bitsTicks p bs → e.rstAt t = false
  line : ∀ t, t0 ≤ t → t < tf + bitsTicks p bs →
    e.periphLow t = (decide (tf ≤ t) && cellsLow p bs (t - tf))

section
variable {p : Params} {e : Env} {b : Bit} {bs : List Bit} {t0 tf : Nat}

theorem Sends.mono (h : Sends p e bs t0 tf) {t1 : Nat} (ht : t0 ≤ t1) : Sends p e bs t1 tf :=
  ⟨fun t hle => h.quiet t (ht.trans hle), fun t hle => h.line t (ht.trans hle)⟩

theorem Sends.high_before (h : Sends p e bs t0 tf) {t : Nat} (ht : t0 ≤ t) (hlt : t < tf) :
    e.periphLow t = false := by
  rw [h.line t ht (by omega), decide_eq_false (by omega), Bool.false_and]

theorem Sends.low (h : Sends p e (b :: bs) t0 tf) {t : Nat} (ht : t0 ≤ t) (hle : tf ≤ t)
    (hlt : t < tf + p.cellLow b) : e.periphLow t = true := by
  rw [h.line t ht (by rw [bitsTicks_cons, cellTicks_eq]; omega), decide_eq_true hle, Bool.true_and, cellsLow,
    if_pos (by omega)]

theorem Sends.high (h : Sends p e (b :: bs) t0 tf) {t : Nat} (ht : t0 ≤ t) (hle : tf + p.cellLow b ≤ t)
    (hlt : t < tf + p.cellLow b + p.cellHigh b) : e.periphLow t = false := by
  rw [h.line t ht (by rw [bitsTicks_cons, cellTicks_eq]; omega), cellsLow, if_neg (by omega),
    if_pos (by rw [cellTicks_eq]; omega), Bool.and_false]

/-- From the high phase of a cell on, what matters is the cells after it. -/
theorem Sends.tail (h : Sends p e (b :: bs) t0 tf) (ht : tf + p.cellLow b ≤ t0) :
    Sends p e bs t0 (tf + p.cellTicks b) := by
  have hend : tf + bitsTicks p (b :: bs) = tf + p.cellTicks b + bitsTicks p bs := by
    rw [bitsTicks_cons, Nat.add_assoc]
  refine ⟨hend ▸ h.quiet, fun t hle hlt => ?_⟩
  by_cases hnext : tf + p.cellTicks b ≤ t
  · rw [h.line t hle (hend ▸ hlt), cellsLow, if_neg (by omega), if_neg (by omega), decide_eq_true hnext,
      decide_eq_true (by omega), Nat.sub_add_eq]
  · rw [h.high hle (by omega) (by rw [cellTicks_eq] at hnext; omega), decide_eq_false hnext, Bool.false_and]

theorem Sends.quietRst {s : State} (h : Sends p s.env bs s.now tf) {n : Nat} (hn : s.now + n < tf + bitsTicks p bs) :
    s.QuietRst n :=
  fun d hd => h.quiet _ (Nat.le_add_right _ _) (by omega)

end

/-! ## What the two inequalities of R173 give -/

/-- The shorter of the two low phases. -/
def shortLow (p : Params) : Nat := min (p.cellLow 0#1) (p.cellLow 1#1)

theorem shortLow_le_cellLow (p : Params) (b : Bit) : shortLow p ≤ p.cellLow b := by
  rcases bit_zero_or_one b with rfl | rfl
  · exact min_le_left _ _
  · exact min_le_right _ _

section
variable {p : Params} (h : Receives p)
include h

theorem Receives.shortLow_pos : 0 < shortLow p := lt_min h.low0 h.low1

theorem Receives.cellLow_pos (b : Bit) : 0 < p.cellLow b := h.shortLow_pos.trans_le (shortLow_le_cellLow p b)

theorem Receives.cellHigh_pos (b : Bit) : 0 < p.cellHigh b := by
  rcases bit_zero_or_one b with rfl | rfl
  · exact h.high0
  · exact (Nat.zero_le _).trans_lt h.one

theorem Receives.bitsTicks_cons_pos (b : Bit) (bs : List Bit) : 0 < bitsTicks p (b :: bs) := by
  have hlow := h.cellLow_pos b
  rw [bitsTicks_cons, cellTicks_eq]
  omega

/-- The sample after the low phase of a cell comes before the low phase of the next one can end. -/
theorem Receives.offset_lt (b : Bit) : p.ticks p.tSampleOffset < p.cellHigh b + shortLow p := by
  rcases bit_zero_or_one b with rfl | rfl
  · exact h.next
  · exact h.one.trans_le (Nat.le_add_right _ _)

theorem Receives.sample_within (b c : Bit) (bs : List Bit) (tc : Nat) :
    tc + p.cellLow b + p.ticks p.tSampleOffset < tc + bitsTicks p (b :: c :: bs) := by
  have hlt := h.offset_lt b
  have hshort := shortLow_le_cellLow p c
  rw [bitsTicks_cons, bitsTicks_cons, cellTicks_eq, cellTicks_eq]
  omega

/-- The sample after the low phase of a cell is the bit of the cell. -/
theorem Receives.sample {e : Env} {b c : Bit} {bs : List Bit} {t0 tf : Nat} (hs : Sends p e (b :: c :: bs) t0 tf)
    (ht : t0 ≤ tf + p.cellLow b) : e.line .release (tf + p.cellLow b + p.ticks p.tSampleOffset) = b := by
  have hlt := (h.offset_lt b).trans_le (Nat.add_le_add_left (shortLow_le_cellLow p c) _)
  rcases bit_zero_or_one b with rfl | rfl
  · have hzero := h.zero
    have hlow : e.periphLow (tf + p.cellLow 0#1 + p.ticks p.tSampleOffset) = true :=
      ((hs.mono ht).tail le_rfl).low (by omega) (by rw [cellTicks_eq]; omega) (by rw [cellTicks_eq]; omega)
    simp [Env.line, hlow]
  · have hhigh : e.periphLow (tf + p.cellLow 1#1 + p.ticks p.tSampleOffset) = false :=
      hs.high (by omega) (by omega) (Nat.add_lt_add_left h.one _)
    simp [Env.line, hhigh]

end

/-! ## The receive loop (41_command_protocol.md R166, R169) -/

/-- The bits `bs` and then `b` have been received, from cells that began at tick `tc`. -/
def State.received (s : State) (bs : List Bit) (b : Bit) (tc : Nat) : State :=
  { s with
    timer := 0
    bitCnt := s.bitCnt - (bs.length + 1)
    retBit := b
    rxWord := s.rxWord.map fun w => (bs ++ [b]).foldl shiftIn w
    now := tc + bitsTicks s.cfg bs + s.cfg.cellLow b + s.cfg.ticks s.cfg.tSampleOffset
    ctl := { s.ctl with point := .rxOffset (s.bitCnt - bs.length - 1) } }

theorem received_received (s : State) (a b : Bit) (bs : List Bit) (tc : Nat) :
    (s.received [] a tc).received bs b (tc + s.cfg.cellTicks a) = s.received (a :: bs) b tc := by
  simp [State.received, bitsTicks_cons, Function.comp_def, Nat.sub_sub, Nat.add_assoc, Nat.add_comm, Nat.add_left_comm]

/-- The ticks from `now` to the end of a low phase: those before the phase begins, then those in it. -/
theorem exists_ticks_to_low_end {now tc low : Nat} (hlow : 0 < low) (h : now < tc + low) :
    ∃ m n, 0 < n ∧ tc ≤ now + m ∧ (∀ d, d < m → now + d < tc) ∧ now + m + n = tc + low := by
  rcases le_total now tc with hle | hle
  · exact ⟨tc - now, low, by omega, by omega, fun d hd => by omega, by omega⟩
  · exact ⟨0, tc + low - now, by omega, by omega, fun d hd => by omega, by omega⟩

/-- `sampleBit`, begun before the low phase of a cell ends, takes the bit of the cell. -/
theorem runs_rxLow_cell {s : State} {b c : Bit} {bs : List Bit} {tc : Nat} (hr : Receives s.cfg)
    (hm : s.pinMode = .release) (hs : Sends s.cfg s.env (b :: c :: bs) s.now tc)
    (hnow : s.now < tc + s.cfg.cellLow b) :
    ∃ ws, Runs s.rxLow ws { s with
        timer := 0
        retBit := b
        now := tc + s.cfg.cellLow b + s.cfg.ticks s.cfg.tSampleOffset
        ctl := { s.ctl with point := .rxOffset (s.bitCnt - 1) } }
      ∧ QuietPorts s ws := by
  obtain ⟨m, n, hn, hle, hbefore, hend⟩ := exists_ticks_to_low_end (hr.cellLow_pos b) hnow
  have hwithin := hr.sample_within b c bs tc
  have hhigh := hr.cellHigh_pos b
  have hbit : s.env.line .release (tc + s.cfg.cellLow b + s.cfg.tSampleOffset * s.cfg.ticksPerUs) = b :=
    hr.sample hs hnow.le
  obtain ⟨t, ws, hexec, hrun, hports⟩ := sampleBitAtOffset s m n hm hn
    (fun d hd => hs.high_before (Nat.le_add_right _ _) (hbefore d hd))
    (fun d hd => hs.low (by omega) (by omega) (by omega))
    (hs.high (by omega) hend.ge (by omega))
    (hs.quietRst (by rwa [← Nat.add_assoc, ← Nat.add_assoc, hend]))
  obtain rfl : s.rxLow = t := Host.Outcome.next.inj hexec
  rw [hend, hbit] at hrun
  exact ⟨ws, hrun, hports⟩

theorem rxBit_more {s : State} (h : s.bitCnt ≠ 0) : s.rxBit = (s.push [.seq .rxShift]).rxLow := if_neg h

theorem rxBit_done {s : State} (h : s.bitCnt = 0) : s.rxBit = { s with outcome := .response } := if_pos h

/-- One turn of the receive loop, with another cell after the one it receives. -/
theorem runs_rxBit_cell {s : State} {b c : Bit} {bs : List Bit} {tc : Nat} (hr : Receives s.cfg)
    (hm : s.pinMode = .release) (hn : s.bitCnt ≠ 0) (hs : Sends s.cfg s.env (b :: c :: bs) s.now tc)
    (hnow : s.now < tc + shortLow s.cfg) :
    ∃ ws, Runs s.rxBit ws (s.received [] b tc).rxBit ∧ QuietPorts s ws := by
  have hcell : s.now < tc + s.cfg.cellLow b := hnow.trans_le (Nat.add_le_add_left (shortLow_le_cellLow _ b) _)
  obtain ⟨ws, hrun, hports⟩ := runs_rxLow_cell (s := s.push [.seq .rxShift]) hr hm hs hcell
  refine ⟨ws, ?_, hports⟩
  have hrst : s.env.rstAt (tc + s.cfg.cellLow b + s.cfg.ticks s.cfg.tSampleOffset) = false :=
    hs.quiet _ (by omega) (hr.sample_within b c bs tc)
  rw [rxBit_more hn, ← List.append_nil ws]
  exact hrun.trans (runs_task hrst rfl (.seq .rxShift) s.ctl.rest rfl rfl (Runs.refl _))

/-- From the sample of a cell on, the peripheral sends the cells after it. -/
theorem Sends.received {s : State} {b : Bit} {bs : List Bit} {tc : Nat}
    (hs : Sends s.cfg s.env (b :: bs) s.now tc) (hnow : s.now < tc + s.cfg.cellLow b) :
    Sends s.cfg s.env bs (s.received [] b tc).now (tc + s.cfg.cellTicks b) :=
  (hs.mono (hnow.le.trans (Nat.le_add_right _ _))).tail (Nat.le_add_right _ _)

/-- Cells are received one after the other, as long as one more follows them. -/
theorem runs_rxBit_cells (bs : List Bit) {b c : Bit} {cs : List Bit} {s : State} {tc : Nat} (hr : Receives s.cfg)
    (hm : s.pinMode = .release) (hn : bs.length < s.bitCnt)
    (hs : Sends s.cfg s.env (bs ++ b :: c :: cs) s.now tc) (hnow : s.now < tc + shortLow s.cfg) :
    ∃ ws, Runs s.rxBit ws (s.received bs b tc).rxBit ∧ QuietPorts s ws := by
  induction bs generalizing s tc with
  | nil => exact runs_rxBit_cell hr hm hn.ne' hs hnow
  | cons a bs ih =>
    rw [List.cons_append] at hs
    obtain ⟨d, ds, hmore⟩ := List.exists_cons_of_ne_nil (l := bs ++ b :: c :: cs) (by simp)
    obtain ⟨ws, hrun, hports⟩ := runs_rxBit_cell (b := a) (c := d) (bs := ds) hr hm (Nat.ne_zero_of_lt hn)
      (hmore ▸ hs) hnow
    have hlater : (s.received [] a tc).now < tc + s.cfg.cellTicks a + shortLow s.cfg := by
      have hoffset := hr.offset_lt a
      rw [cellTicks_eq]
      change tc + 0 + s.cfg.cellLow a + s.cfg.ticks s.cfg.tSampleOffset < _
      omega
    have hsends := hs.received (hnow.trans_le (Nat.add_le_add_left (shortLow_le_cellLow _ a) _))
    obtain ⟨vs, hrest, hports'⟩ := ih (s := s.received [] a tc) hr hm (Nat.lt_sub_of_add_lt hn) hsends hlater
    rw [received_received] at hrest
    exact ⟨ws ++ vs, hrun.trans hrest, quietPorts_append hports hports'⟩

/-! ## The whole read -/

/-- The first fifteen bits of a word and then its last have been received: the reception ends. -/
theorem rxBit_received_word {s : State} (w : BitVec 16) (tc : Nat) (hn : s.bitCnt = 16) (hx : s.rxWord = some 0#16) :
    (s.received ((msbFirst 16 w).take 15) (w.extractLsb' 0 1) tc).rxBit =
      { s with
        timer := 0, bitCnt := 0, retBit := w.extractLsb' 0 1, rxWord := some w, outcome := .response
        now := tc + bitsTicks s.cfg ((msbFirst 16 w).take 15) + s.cfg.cellLow (w.extractLsb' 0 1)
          + s.cfg.ticks s.cfg.tSampleOffset
        ctl := { s.ctl with point := .rxOffset 0 } } := by
  have hdone : (s.received ((msbFirst 16 w).take 15) (w.extractLsb' 0 1) tc).bitCnt = 0 := by
    simp [State.received, hn, msbFirst_length]
  rw [rxBit_done hdone]
  simp [State.received, hn, hx, msbFirst_last, foldl_shiftIn_msbFirst, msbFirst_length]

theorem responseCells_eq (p : Params) (w : BitVec 16) :
    responseCells p w = p.startBit :: (msbFirst 16 w ++ [p.stopBit]) := rfl

section
variable {s : State} {a : BitVec 4} {r : BitVec 2} {w : BitVec 16} {k : Nat}

theorem Responds.sends
    (h : Responds s.cfg s.env w (waitFrom s a r) (polls s + responseTicks s.cfg w) (waitFrom s a r + k))
    (hk : k < polls s)
    (hq : s.QuietRst (waveTicks (commandWave s.cfg a s.cfg.cmdRead r) + polls s + responseTicks s.cfg w)) :
    Sends s.cfg s.env (responseCells s.cfg w) (waitFrom s a r) (waitFrom s a r + k) := by
  have hfrom : waitFrom s a r = s.now + waveTicks (commandWave s.cfg a s.cfg.cmdRead r) := rfl
  have hlen : responseTicks s.cfg w = bitsTicks s.cfg (responseCells s.cfg w) := rfl
  refine ⟨fun t hle hlt => ?_, fun t hle hlt => h t hle (by omega)⟩
  have hrst := hq (t - s.now) (by omega)
  rwa [Nat.add_sub_cancel' (by omega)] at hrst

/-- The settle interval of a read whose start was detected at poll `k` has passed. -/
def State.settled (s : State) (a : BitVec 4) (r : BitVec 2) (k : Nat) : State :=
  { s.startDetected a r k with
    timer := 0, now := waitFrom s a r + k + s.cfg.ticks s.cfg.tRespSettle
    ctl := { s.ctl with point := .rxSettle } }

variable (hr : Receives s.cfg) (hs : Sends s.cfg s.env (responseCells s.cfg w) (waitFrom s a r) (waitFrom s a r + k))
include hr hs

/-- The settle interval ends in the high phase of the start cell, or with it. -/
theorem sends_settled :
    Sends s.cfg s.env (msbFirst 16 w ++ [s.cfg.stopBit]) (s.settled a r k).now
      (waitFrom s a r + k + s.cfg.cellTicks s.cfg.startBit) :=
  (hs.mono ((Nat.le_add_right _ k).trans (Nat.le_add_right _ _))).tail (Nat.add_le_add_left hr.startLow _)

/-- The settle interval passes with the pin released, and the receive loop begins. -/
theorem runs_settle :
    Runs (s.startDetected a r k) (List.replicate (s.cfg.ticks s.cfg.tRespSettle) (s.wiresAt .release))
      (s.settled a r k).rxBit := by
  have hwithin : waitFrom s a r + k + s.cfg.ticks s.cfg.tRespSettle
      < waitFrom s a r + k + bitsTicks s.cfg (responseCells s.cfg w) := by
    have hstart := hr.startHigh
    have hdata : 0 < bitsTicks s.cfg (msbFirst 16 w ++ [s.cfg.stopBit]) :=
      hr.bitsTicks_cons_pos (w.extractLsb' 15 1) _
    rw [responseCells_eq, bitsTicks_cons]
    omega
  have hquiet : (s.startDetected a r k).QuietRst (s.cfg.ticks s.cfg.tRespSettle) :=
    (hs.mono (Nat.le_add_right _ k)).quietRst (s := s.startDetected a r k) hwithin
  rw [← List.append_nil (List.replicate _ _)]
  exact (runs_hold (s.cfg.ticks s.cfg.tRespSettle) rfl hquiet).trans
    (runs_task (hquiet _ le_rfl) rfl (.seq .rxBit) s.ctl.rest rfl rfl (Runs.refl _))

/-- After the settle interval the sixteen data cells are received; the stop cell follows them. -/
theorem runs_data :
    ∃ ws, Runs (s.settled a r k).rxBit ws
        ((s.settled a r k).received ((msbFirst 16 w).take 15) (w.extractLsb' 0 1)
          (waitFrom s a r + k + s.cfg.cellTicks s.cfg.startBit)).rxBit
      ∧ QuietPorts s ws := by
  have hsends := sends_settled hr hs
  rw [← msbFirst_last, List.append_assoc] at hsends
  have hnow : (s.settled a r k).now < waitFrom s a r + k + s.cfg.cellTicks s.cfg.startBit + shortLow s.cfg :=
    Nat.lt_of_le_of_lt (Nat.add_le_add_left hr.startHigh _) (Nat.lt_add_of_pos_right hr.shortLow_pos)
  have hlen : ((msbFirst 16 w).take 15).length < 16 := by rw [List.length_take, msbFirst_length]; decide
  exact runs_rxBit_cells (s := s.settled a r k) _ hr rfl hlen hsends hnow

end

/-- Settles O32: the first low tick of the start cell is detected, the settle interval ends before the data cells, and
each of those gives its bit. -/
theorem readLoopBack : Obligations.ReadLoopBack := by
  intro s a r i w k hi hr hk hresponds hq
  have hs := hresponds.sends hk hq
  have hlow : s.env.periphLow (waitFrom s a r + k) = true :=
    Sends.low (b := s.cfg.startBit) hs (Nat.le_add_right _ _) le_rfl (Nat.lt_add_of_pos_right (hr.cellLow_pos _))
  have hwait := runs_sendRead_startDetected hk (fun t hle hlt => hs.high_before hle hlt) hlow (hq.mono (by omega))
  have hsettle := runs_settle hr hs
  obtain ⟨ws, hdata, hports⟩ := runs_data hr hs
  rw [rxBit_received_word w _ rfl rfl] at hdata
  have hticks : waveTicks (bitsWave s.cfg ([s.cfg.startBit] ++ (msbFirst 16 w).take 15))
      = s.cfg.cellTicks s.cfg.startBit + bitsTicks s.cfg ((msbFirst 16 w).take 15) := bitsTicks_cons _ _ _
  rw [hticks, ← Nat.add_assoc]
  exact ⟨_, _, .rxOffset 0, exec_readOf hi, hwait.trans (hsettle.trans hdata),
    quietPorts_append (waveWires_ports s _) (quietPorts_append (quietPorts_replicate s _ _) hports)⟩

end Sys2Proof.Machine

namespace Sys2Proof.Machine

/-! ## The program never ends (42_bring_up_and_poll.md R190, 60_exceptions.md R254) -/

/-- The last task decides, and a task that runs pushes in front. -/
theorem Pushed.endless {kind : Task → Bool} {s t : State} (h : Pushed kind s t) (hs : s.Endless) : t.Endless := by
  obtain ⟨us, hus, -⟩ := h
  obtain ⟨ts, x, hts, hx⟩ := hs
  exact ⟨us ++ ts, x, by rw [hus, hts, List.append_assoc], hx⟩

theorem endless_push_of_ended {s : State} {x : Task} (hs : s.ctl.rest = []) (hx : endlessTask x = true) :
    (s.push [x]).Endless :=
  ⟨[], x, congrArg ([x] ++ ·) hs, hx⟩

theorem blockReset_endless (s : State) : s.blockReset.Endless := ⟨[], .op .main, rfl, rfl⟩

/-- The last task of an endless program puts another such task last before anything else. -/
theorem Ran.endless_of_last {s t : State} {q : Task} (h : Ran s q t) (hq : endlessTask q = true)
    (hs : s.ctl.rest = []) : t.Endless := by
  cases h with
  | main =>
    exact Pushed.endless (kind := blockTask) ⟨[_, _], rfl, rfl⟩ (endless_push_of_ended hs (x := .op .pollLoop) rfl)
  | pollLoop =>
    exact Pushed.endless (kind := blockTask) ⟨[_, _, _], rfl, rfl⟩ (endless_push_of_ended hs (x := .seq .plCheck) rfl)
  | seqPlCheckAnswered w =>
    exact (decodeWord_pushed _ w).endless (endless_push_of_ended hs (x := .seq .plIdle) rfl)
  | seqPlCheckSilent | seqPlIdle => exact endless_push_of_ended hs (x := .op .pollLoop) rfl
  | _ => cases hq

/-- Settles O46: a task before the last one leaves the last one where it is, and the last one puts another in its
place. -/
theorem programStaysEndless : Obligations.ProgramStaysEndless := by
  intro s t hs hstep
  rcases step_ran hstep with ⟨-, rfl⟩ | ⟨-, -, rfl⟩ | ⟨-, -, q, ts, hq, hran⟩
  · exact blockReset_endless s
  · exact hs
  · obtain ⟨us, x, hus, hx⟩ := hs
    rw [hq] at hus
    cases us with
    | nil =>
      obtain ⟨rfl, rfl⟩ := List.cons.inj hus
      exact hran.endless_of_last hx rfl
    | cons u us =>
      obtain ⟨-, hts⟩ := List.cons.inj hus
      exact hran.pushed_blockTask.endless ⟨us, x, hts, hx⟩

/-- A task of the block is refused in one case alone: a response without its word. -/
theorem exists_runTask_next {s : State} {q : Task} (hb : blockTask q = true)
    (hw : s.outcome = .response → s.rxWord ≠ none) : ∃ t, runTask q s = .next t := by
  cases q with
  | op i =>
    cases i with
    | main | pollLoop | writeIndicators => exact ⟨_, rfl⟩
    | _ => cases hb
  | seq q =>
    cases q with
    | plCheck =>
      by_cases ho : s.outcome = .response
      · obtain ⟨w, hrx⟩ := Option.ne_none_iff_exists'.mp (hw ho)
        exact ⟨_, runPlCheck_answered ho hrx⟩
      · exact ⟨_, runPlCheck_silent ho⟩
    | _ => exact ⟨_, rfl⟩

/-- Under the three invariants a step is never refused: a task remains, it is one of the block, and a response has its
word. -/
theorem exists_step_next {s : State} (he : s.Endless) (hp : s.PinDiscipline) (hx : s.RxHeld) :
    ∃ t, step s = .next t := by
  obtain ⟨hblock, -, -⟩ := hp
  cases hr : s.rst with
  | true => exact ⟨_, step_rst s hr⟩
  | false =>
    by_cases ht : s.timer = 0
    · cases hq : s.ctl.rest with
      | nil =>
        obtain ⟨ts, x, hrest, -⟩ := he
        simp [hq] at hrest
      | cons q ts =>
        rw [step_run s hr ht q ts hq]
        exact exists_runTask_next (hblock q (by simp [hq])) fun ho => hx (.inl ho)
    · exact ⟨_, step_tick s hr ht⟩

/-- Settles O53: a next state exists, and each of the three invariants is kept by every step. -/
theorem blockNeverStops : Obligations.BlockNeverStops := by
  intro s he hp hx
  obtain ⟨t, ht⟩ := exists_step_next he hp hx
  exact ⟨t, ht, programStaysEndless s t he ht, pinFollowsControlPoint s t hp ht, receivedWordHeld s t hx ht⟩

end Sys2Proof.Machine

namespace Sys2Proof.Machine

/-! ## How the program begins and goes on (42_bring_up_and_poll.md R190, R191, R196, R199) -/

theorem exec_main (s : State) : exec .main s = .next s.main := rfl
theorem exec_bringUp (s : State) : exec .bringUp s = .next s.bringUp := rfl
theorem exec_pollLoop (s : State) : exec .pollLoop s = .next s.pollLoop := rfl
theorem exec_decodeWord (s : State) (w : BitVec 16) : exec (.decodeWord w) s = .next (s.decodeWord w) := rfl

theorem main_eq (s : State) : s.main = (s.push [.op .pollLoop]).bringUp := rfl

theorem bringUp_begun (s : State) :
    s.bringUp = symbolBegun
      { s with ctl := { s.ctl with activity := .buReset, rest := .seq .buRead :: s.ctl.rest } }
      .resetLow (s.cfg.tResetLow * s.cfg.ticksPerUs) .resetSettle (s.cfg.tResetSettle * s.cfg.ticksPerUs) := rfl

theorem pollLoop_begun (s : State) :
    s.pollLoop = commandBegun
      { s with ctl := { s.ctl with activity := .plRead, rest := .seq .plCheck :: s.ctl.rest } }
      s.cfg.deviceAddr s.cfg.cmdRead s.cfg.regKeys [.seq .waitBegin] :=
  sendRead_begun ((s.enter .plRead).push [.seq .plCheck]) _ _

/-- Settles O17: bring-up is a reset pulse, `main` puts the polling loop behind it, and the loop begins with a read. -/
theorem programBegins : Obligations.ProgramBegins := by
  refine fun s => ⟨?_, ?_, ?_⟩
  · rw [exec_bringUp, bringUp_begun]
  · rw [exec_main, main_eq, exec_bringUp]; rfl
  · rw [exec_pollLoop, pollLoop_begun]

/-- Settles O43: the check of the outcome finds a word to decode. -/
theorem answeredPollDecodesTheWord : Obligations.AnsweredPollDecodesTheWord := by
  intro s w ts hr ht hq ho hw
  refine ⟨_, exec_decodeWord _ w, ?_⟩
  rw [step_run s hr ht _ ts hq]
  exact runPlCheck_answered (s := s.withRest ts) ho hw

end Sys2Proof.Machine

namespace Sys2Proof.Machine

/-! ## After activation (42_bring_up_and_poll.md R192, R197, 10_state.md R24) -/

/-- What activation touches: `host_active`, the port, and the activity. -/
structure HostSide where
  active : Bool
  port : Option HostCall
  activity : Activity

def State.hostSide (s : State) : HostSide where
  active := s.hostActive
  port := s.hostPort
  activity := s.ctl.activity

/-- From `a` to `b` an active host stays active, no new `activate` comes on the port, and bring-up is not entered. -/
structure StaysActivated (a b : HostSide) : Prop where
  active : a.active = true → b.active = true
  port : b.port = some .activate → a.port = some .activate
  activity : a.activity ≠ .buReset ∧ a.activity ≠ .buRead → b.activity ≠ .buReset ∧ b.activity ≠ .buRead

theorem StaysActivated.refl (a : HostSide) : StaysActivated a a := ⟨id, id, id⟩

theorem StaysActivated.trans {a b c : HostSide} (h : StaysActivated a b) (h' : StaysActivated b c) :
    StaysActivated a c :=
  ⟨h'.active ∘ h.active, h.port ∘ h'.port, h'.activity ∘ h.activity⟩

/-- Another activity of the polling loop begins. -/
theorem enter_staysActivated (s : State) {a : Activity} (ha : a ≠ .buReset ∧ a ≠ .buRead) :
    StaysActivated s.hostSide (s.enter a).hostSide :=
  ⟨id, id, fun _ => ha⟩

theorem beginSlot_staysActivated (s : State) (k : Fin 2) : StaysActivated s.hostSide (s.beginSlot k).hostSide :=
  enter_staysActivated { s with slotIdx := k } (by split <;> decide)

/-! ### The operations of the polling loop -/

theorem sendBits_hostSide (s : State) (f : TxField) : (s.sendBits f).hostSide = s.hostSide := by
  rcases sendBits_cases s f with ⟨-, h⟩ | ⟨i, -, h⟩ <;> rw [h] <;> rfl

theorem waitPoll_hostSide (s : State) : s.waitPoll.hostSide = s.hostSide := by
  rcases waitPoll_cases s with ⟨-, h⟩ | ⟨-, -, h⟩ | ⟨-, -, h⟩ <;> rw [h] <;> rfl

theorem rxHigh_hostSide (s : State) : s.rxHigh.hostSide = s.hostSide := by
  rcases rxHigh_cases s with ⟨-, h⟩ | ⟨-, h⟩ <;> rw [h] <;> rfl

theorem rxLow_hostSide (s : State) : s.rxLow.hostSide = s.hostSide := by
  rcases rxLow_cases s with ⟨-, h⟩ | ⟨-, h⟩ <;> rw [h] <;> rfl

theorem rxBit_hostSide (s : State) : s.rxBit.hostSide = s.hostSide := by
  rcases rxBit_cases s with ⟨-, h⟩ | ⟨-, h⟩ <;> rw [h]
  · rfl
  · exact rxLow_hostSide (s.push [.seq .rxShift])

theorem hookEmit_hostSide (s : State) (h : HookEvent) : (s.hookEmit h).hostSide = s.hostSide := by cases h <;> rfl

theorem dropHook_hostSide (s : State) (h : HookEvent) : (s.dropHook h).hostSide = s.hostSide := by cases h <;> rfl

theorem sendRead_hostSide (s : State) (a : BitVec 4) (r : BitVec 2) : (s.sendRead a r).hostSide = s.hostSide := by
  rw [sendRead_eq]; rfl

theorem sendWrite_hostSide (s : State) (a : BitVec 4) (r : BitVec 2) (d : BitVec 16) :
    (s.sendWrite a r d).hostSide = s.hostSide := by
  rw [sendWrite_eq]; rfl

theorem hostEmit_staysActivated (s : State) {c : HostCall} (hc : c ≠ .activate) :
    StaysActivated s.hostSide (s.hostEmit c).hostSide := by
  rcases hostEmit_cases s c with ⟨-, h⟩ | ⟨-, h⟩ <;> rw [h]
  · exact ⟨fun ha => Bool.or_eq_true_iff.mpr (.inl ha), fun hp => absurd (Option.some.inj hp) hc, id⟩
  · exact .refl _

theorem plainCall_ne_activate (rel : Bit) (k : LogicalKey) : plainCall rel k ≠ .activate := by
  unfold plainCall
  split <;> exact HostCall.noConfusion

theorem decodeSlot_staysActivated (s : State) (e : Byte) : StaysActivated s.hostSide (s.decodeSlot e).hostSide := by
  rcases decodeSlot_cases s e with ⟨k, h⟩ | ⟨-, h⟩ | ⟨-, -, h⟩ | ⟨k, -, -, h⟩ <;> rw [h]
  · rw [hookEmit_hostSide]; exact .refl _
  · exact .refl _
  · exact hostEmit_staysActivated ((s.presentScan (eventScan e)).flipCaps.push [.op .writeIndicators])
      HostCall.noConfusion
  · exact hostEmit_staysActivated (s.presentScan (eventScan e)) (plainCall_ne_activate _ k)

theorem decodeWord_staysActivated (s : State) (w : BitVec 16) :
    StaysActivated s.hostSide (s.decodeWord w).hostSide :=
  (beginSlot_staysActivated s 0).trans
    (decodeSlot_staysActivated ((s.beginSlot 0).push [.seq (.decodeSecond (slot1 w))]) (slot0 w))

/-- No task of the polling loop activates or goes back to bring-up. -/
theorem Ran.staysActivated {s t : State} {q : Task} (h : Ran s q t) (hq : pollTask q = true) :
    StaysActivated s.hostSide t.hostSide := by
  have same {u : State} (hu : u.hostSide = s.hostSide) : StaysActivated s.hostSide u.hostSide := hu ▸ .refl _
  cases h with
  | pollLoop =>
    refine (enter_staysActivated s (a := .plRead) (by decide)).trans ?_
    rw [State.pollLoop, sendRead_hostSide]; exact .refl _
  | writeIndicators => exact same (sendWrite_hostSide s _ _ _)
  | seqPlay | seqWriteGap | seqWriteData | seqRxTake => exact .refl _
  | seqSendBits f => exact same (sendBits_hostSide s f)
  | seqNextBit f => exact same (sendBits_hostSide s.countBit f)
  | seqWaitBegin | seqWaitNext => exact same (waitPoll_hostSide { s with waitCnt := _ })
  | seqRxLow => exact same (rxLow_hostSide s)
  | seqRxHigh => exact same (rxHigh_hostSide s)
  | seqRxBit => exact same (rxBit_hostSide s)
  | seqRxShift => exact same (rxBit_hostSide (State.countBit { s with rxWord := _ }))
  | seqPlIdle | seqPlCheckSilent => exact enter_staysActivated s (a := .plIdle) (by decide)
  | seqPlCheckAnswered w => exact decodeWord_staysActivated (s.push [.seq .plIdle]) w
  | seqDecodeSecond e => exact (beginSlot_staysActivated s 1).trans (decodeSlot_staysActivated _ e)
  | seqHostTry c => exact hostEmit_staysActivated s (fun hc => by subst hc; cases hq)
  | seqHostDone => exact ⟨id, (nomatch ·), id⟩
  | seqHookDone k => exact same (dropHook_hostSide s k)
  | _ => cases hq

/-- Settles O51: after activation only tasks of the polling loop remain. -/
theorem activationHappensOnce : Obligations.ActivationHappensOnce := by
  intro s t ⟨_, hactivated⟩ hactive hrst hstep
  obtain ⟨htasks, hreset, hread⟩ := hactivated hactive
  rcases step_ran hstep with ⟨hr, -⟩ | ⟨-, -, rfl⟩ | ⟨-, -, q, ts, hq, hran⟩
  · exact absurd (hrst.symm.trans hr) Bool.false_ne_true
  · exact ⟨hactive, id, hreset, hread⟩
  · obtain ⟨hstays, hport, hactivity⟩ := hran.staysActivated (htasks q (by simp [hq]))
    exact ⟨hstays hactive, hport, hactivity ⟨hreset, hread⟩⟩

end Sys2Proof.Machine

namespace Sys2Proof.Machine

/-! ## The host is activated (42_bring_up_and_poll.md R192) -/

/-- A ready host takes an operation in one tick. -/
theorem runs_hostEmit_ready {s : State} (c : HostCall) (hready : s.hostReady = true) (hq : s.QuietRst 1) :
    Runs (s.hostEmit c) [{ s.wiresAt s.pinMode with host := some c }]
      { s with
        timer := 0, hostPort := none, hostActive := s.hostActive || decide (c = .activate), now := s.now + 1
        ctl := { s.ctl with point := .hostOp } } := by
  rw [hostEmit_ready s c hready]
  exact runs_tick_task rfl hq rfl rfl (Runs.refl _) rfl

/-- The host has taken `activate`, and bring-up is over. -/
def State.activated (s : State) : State :=
  { s with
    timer := 0, hostPort := none, hostActive := true, now := s.now + 1
    ctl := { s.ctl with activity := .buActivate, point := .hostOp } }

/-- After an answered read of bring-up a ready host is activated. -/
theorem runs_buCheck_response {s : State} (ho : s.outcome = .response) (hready : s.hostReady = true)
    (hq : s.QuietRst 1) :
    Runs s.buCheck [{ s.wiresAt s.pinMode with host := some .activate }] s.activated := by
  have hrun := runs_hostEmit_ready (s := s.enter .buActivate) .activate hready hq
  rw [decide_eq_true rfl, Bool.or_true] at hrun
  rwa [buCheck_response s ho]

/-- Settles O44: the check finds the response, and the ready host takes `activate`. -/
theorem responseActivatesHost : Obligations.ResponseActivatesHost := by
  intro s ts ht hq ho hport hready hquiet
  have hrun := runs_buCheck_response (s := s.withRest ts) ho hready hquiet
  rw [wires_eq_wiresAt hquiet.now, hport, ht]
  exact runs_task hquiet.now ht (.seq .buCheck) ts hq rfl hrun

end Sys2Proof.Machine

namespace Sys2Proof.Machine

/-! ## Reads of the program without an answer (42_bring_up_and_poll.md R193, R197) -/

/-- The frame of a read and all its polls. -/
def unansweredWave (p : Params) (a : BitVec 4) (r : BitVec 2) : List Segment :=
  commandWave p a p.cmdRead r ++ [(.release, p.tRespTimeout * p.ticksPerUs)]

/-- What a read leaves when every poll of it sees the line high. -/
def State.unanswered (s : State) (a : BitVec 4) (r : BitVec 2) (p : Point) : State :=
  { s with
    pinMode := .release, timer := 0, txCmd := cmdByte a s.cfg.cmdRead r, bitCnt := 0, waitCnt := 0
    outcome := .timeout, now := s.now + waveTicks (unansweredWave s.cfg a r), ctl := { s.ctl with point := p } }

theorem waveTicks_unansweredWave (s : State) (a : BitVec 4) (r : BitVec 2) :
    waveTicks (unansweredWave s.cfg a r) = waveTicks (commandWave s.cfg a s.cfg.cmdRead r) + polls s :=
  waveTicks_append _ _

@[simp] theorem unanswered_outcome (s : State) (a : BitVec 4) (r : BitVec 2) (p : Point) :
    (s.unanswered a r p).outcome = .timeout := rfl

theorem runs_sendRead_unanswered {s : State} {a : BitVec 4} {r : BitVec 2}
    (hp : Silent s.env (waitFrom s a r) (polls s)) (hq : s.QuietRst (waveTicks (unansweredWave s.cfg a r))) :
    ∃ p, Runs (s.sendRead a r) (s.waveWires (unansweredWave s.cfg a r)) (s.unanswered a r p) := by
  rw [waveTicks_unansweredWave] at hq
  obtain ⟨p, hrun⟩ := runs_sendRead_while_high le_rfl hp hq
  rw [waitPoll_polled_all (n := polls s) p rfl] at hrun
  refine ⟨p, ?_⟩
  rw [State.unanswered, waveTicks_unansweredWave, ← Nat.add_assoc]
  exact hrun

/-! ### Bring-up -/

/-- The state in which the read of an attempt of bring-up begun in `s` begins. -/
def State.bringUpRead (s : State) : State :=
  ((s.played (resetWave s.cfg) .resetSettle).enter .buRead).push [.seq .buCheck]

/-- An attempt of bring-up is a reset pulse, then its read. -/
theorem runs_bringUp {s u : State} {ws : List Wires} (hq : s.QuietRst (waveTicks (resetWave s.cfg)))
    (hread : Runs (s.bringUpRead.sendRead s.cfg.deviceAddr s.cfg.regBringup) ws u) :
    Runs s.bringUp (s.waveWires (resetWave s.cfg) ++ ws) u :=
  runs_played_task (s := s.enter .buReset)
    (runs_symbol ((s.enter .buReset).push [.seq .buRead]) .resetLow _ .resetSettle _ hq) hq rfl hread

theorem attemptWave_eq (p : Params) :
    attemptWave p = resetWave p ++ unansweredWave p p.deviceAddr p.regBringup :=
  List.append_assoc _ _ _

/-- An attempt of bring-up without an answer has passed. -/
def State.attempted (s : State) : State :=
  { s with
    pinMode := .release, txCmd := cmdByte s.cfg.deviceAddr s.cfg.cmdRead s.cfg.regBringup, bitCnt := 0
    waitCnt := 0, outcome := .timeout, now := s.now + waveTicks (attemptWave s.cfg) }

theorem waitFrom_bringUpRead (s : State) :
    waitFrom s.bringUpRead s.cfg.deviceAddr s.cfg.regBringup = s.now + attemptLead s.cfg :=
  Nat.add_assoc _ _ _

/-- The check behind the read loads everything in which the two sides differ. -/
theorem buCheck_unanswered (s : State) (p : Point) :
    ((s.bringUpRead.unanswered s.cfg.deviceAddr s.cfg.regBringup p).withRest s.ctl.rest).buCheck
      = s.attempted.bringUp := by
  rw [buCheck_retry _ (by simp), State.attempted, attemptWave_eq, waveTicks_append, ← Nat.add_assoc]
  rfl

/-- An attempt of bring-up without an answer leads to the next one. -/
theorem runs_bringUp_unanswered {s : State} (hp : Silent s.env (s.now + attemptLead s.cfg) (polls s))
    (hq : s.QuietRst (waveTicks (attemptWave s.cfg))) :
    Runs s.bringUp (s.waveWires (attemptWave s.cfg)) s.attempted.bringUp := by
  rw [← waitFrom_bringUpRead] at hp
  rw [attemptWave_eq] at hq ⊢
  have hq' := hq.played .resetSettle
  obtain ⟨p, hread⟩ := runs_sendRead_unanswered (s := s.bringUpRead) hp hq'
  rw [waveWires_append, ← List.append_nil (s.waveWires (unansweredWave _ _ _))]
  refine runs_bringUp hq.of_append (hread.trans ?_)
  exact runs_task (hq' _ le_rfl) rfl (.seq .buCheck) s.ctl.rest rfl
    (congrArg Host.Outcome.next (buCheck_unanswered s p)) (Runs.refl _)

/-- Settles O40: the reset pulse, the read that times out, and the check that begins the next attempt. -/
theorem silentBringUpRetries : Obligations.SilentBringUpRetries := fun s hp hq =>
  ⟨_, _, _, exec_bringUp s, runs_bringUp_unanswered hp hq, exec_bringUp s.attempted, waveWires_pin s _,
    waveWires_ports s _⟩

/-! ### The polling loop -/

/-- The idle delay as a waveform (R198). -/
def idleSegment (p : Params) : List Segment := [(.release, p.ticks p.tPollIdle)]

theorem pollWave_eq (p : Params) :
    pollWave p = unansweredWave p p.deviceAddr p.regKeys ++ idleSegment p :=
  List.append_cons _ _ _

/-- A poll without an answer has passed. -/
def State.pollPassed (s : State) : State :=
  { s with
    pinMode := .release, txCmd := cmdByte s.cfg.deviceAddr s.cfg.cmdRead s.cfg.regKeys, bitCnt := 0
    waitCnt := 0, outcome := .timeout, now := s.now + waveTicks (pollWave s.cfg) }

/-- The idle delay, then the next poll. -/
theorem runs_plIdle {s : State} (hm : s.pinMode = .release) (hq : s.QuietRst (waveTicks (idleSegment s.cfg))) :
    Runs s.plIdle (s.waveWires (idleSegment s.cfg)) (s.played (idleSegment s.cfg) .idle).pollLoop := by
  have hidle : Runs s.plIdle (s.waveWires (idleSegment s.cfg))
      (((s.enter .plIdle).push [.op .pollLoop]).played (idleSegment s.cfg) .idle) := by
    rw [idleSegment, waveWires_cons, waveWires_nil, List.append_nil, State.played, ← hm]
    exact runs_hold (s := s.plIdle) (s.cfg.ticks s.cfg.tPollIdle) rfl hq
  rw [← List.append_nil (s.waveWires _)]
  exact hidle.trans (runs_task (hq _ le_rfl) rfl (.op .pollLoop) s.ctl.rest rfl rfl (Runs.refl _))

/-- The next poll loads everything in which the two sides differ. -/
theorem pollLoop_played_unanswered (s : State) (p : Point) :
    (((s.enter .plRead).unanswered s.cfg.deviceAddr s.cfg.regKeys p).played (idleSegment s.cfg) .idle).pollLoop
      = s.pollPassed.pollLoop := by
  rw [State.pollPassed, pollWave_eq, waveTicks_append, ← Nat.add_assoc, pollLoop_eq, pollLoop_eq]
  rfl

/-- A poll without an answer leads to the next one, behind the idle delay. -/
theorem runs_pollLoop_unanswered {s : State}
    (hp : Silent s.env (waitFrom s s.cfg.deviceAddr s.cfg.regKeys) (polls s))
    (hq : s.QuietRst (waveTicks (pollWave s.cfg))) :
    Runs s.pollLoop (s.waveWires (pollWave s.cfg)) s.pollPassed.pollLoop := by
  rw [pollWave_eq] at hq ⊢
  obtain ⟨p, hread⟩ := runs_sendRead_unanswered (s := (s.enter .plRead).push [.seq .plCheck]) hp hq.of_append
  have hnext := runPlCheck_silent (s := (s.enter .plRead).unanswered s.cfg.deviceAddr s.cfg.regKeys p) (by simp)
  have hidle := runs_plIdle (s := (s.enter .plRead).unanswered s.cfg.deviceAddr s.cfg.regKeys p) rfl (hq.played p)
  rw [waveWires_append, ← pollLoop_played_unanswered s p]
  exact hread.trans (runs_task (hq.of_append _ le_rfl) rfl (.seq .plCheck) s.ctl.rest rfl hnext hidle)

/-- Settles O42: the read that times out, the check that finds no response, and the idle delay. -/
theorem silentPollSkipsDecoding : Obligations.SilentPollSkipsDecoding := fun s hp hq =>
  ⟨_, _, _, exec_pollLoop s, runs_pollLoop_unanswered hp hq, exec_pollLoop s.pollPassed, waveWires_pin s _,
    waveWires_ports s _⟩

end Sys2Proof.Machine

namespace Sys2Proof.Machine

/-! ## The pin during a reception (10_state.md R30, 41_command_protocol.md R166)

`readLoopBack` says what a read receives and that the collaborators' wires keep their values.  The waveform of an
answered attempt of bring-up needs the pin as well: it is released in every tick of the reception. -/

/-- From `t` to `u` the pin is released, and the collaborators' wires keep the values of `s`. -/
def RunsReleased (s t u : State) : Prop := ∃ n, Runs t (List.replicate n (s.wiresAt .release)) u

theorem RunsReleased.trans {s t u v : State} (h : RunsReleased s t u) (h' : RunsReleased s u v) :
    RunsReleased s t v := by
  obtain ⟨m, hm⟩ := h
  obtain ⟨n, hn⟩ := h'
  exact ⟨m + n, List.replicate_append_replicate ▸ hm.trans hn⟩

/-- A statement that follows in zero time. -/
theorem RunsReleased.task {s t u v : State} {q : SeqTask} {ts : List Task} (h : RunsReleased s t u)
    (hr : u.rst = false) (ht : u.timer = 0) (hq : u.ctl.rest = .seq q :: ts)
    (hnext : runSeq q (u.withRest ts) = .next v) : RunsReleased s t v :=
  h.trans ⟨0, runs_task hr ht (.seq q) ts hq hnext (Runs.refl v)⟩

/-- `sampleBit`, begun before the low phase of a cell ends. -/
theorem runsReleased_rxLow {s : State} {b c : Bit} {bs : List Bit} {tc : Nat} (hr : Receives s.cfg)
    (hm : s.pinMode = .release) (hs : Sends s.cfg s.env (b :: c :: bs) s.now tc)
    (hnow : s.now < tc + s.cfg.cellLow b) :
    RunsReleased s s.rxLow { s with
      timer := 0
      retBit := b
      now := tc + s.cfg.cellLow b + s.cfg.ticks s.cfg.tSampleOffset
      ctl := { s.ctl with point := .rxOffset (s.bitCnt - 1) } } := by
  obtain ⟨m, n, hn, hle, hbefore, hend⟩ := exists_ticks_to_low_end (hr.cellLow_pos b) hnow
  have hhigh := hr.cellHigh_pos b
  have hquiet : s.QuietRst (m + n + s.cfg.ticks s.cfg.tSampleOffset) :=
    hs.quietRst (by rw [← Nat.add_assoc, ← Nat.add_assoc, hend]; exact hr.sample_within b c bs tc)
  have hlow (d : Nat) (hd : d < n) : s.env.periphLow (s.now + m + d) = true :=
    hs.low (by omega) (by omega) (by omega)
  have hfirst := runs_rxLow_while_high m hm (hquiet.mono (by omega)) fun d hd =>
    hs.high_before (Nat.le_add_right _ _) (hbefore d hd)
  rw [rxLow_eq_rxHigh (line_low (s := s.after m) (hlow 0 hn))] at hfirst
  have hsecond := runs_rxHigh_while_low n (s := s.after m) hm (hquiet.after m (by omega)) hlow
  have hsample := runs_rxHigh_sample (s := (s.after m).after n) hm
    (hs.high (t := s.now + m + n) (by omega) hend.ge (by omega)) (hquiet.later rfl (m + n) (Nat.add_assoc ..) le_rfl)
  have hbit := hr.sample hs hnow.le
  have hrun : RunsReleased s s.rxLow { s with
      timer := 0
      retBit := s.env.line .release (s.now + m + n + s.cfg.ticks s.cfg.tSampleOffset)
      now := s.now + m + n + s.cfg.ticks s.cfg.tSampleOffset
      ctl := { s.ctl with point := .rxOffset (s.bitCnt - 1) } } :=
    .trans ⟨m, hfirst⟩ (.trans ⟨n, hsecond⟩ ⟨_, hsample⟩)
  rwa [hend, hbit] at hrun

/-- One turn of the receive loop, with another cell after the one it receives. -/
theorem runsReleased_rxBit {s : State} {b c : Bit} {bs : List Bit} {tc : Nat} (hr : Receives s.cfg)
    (hm : s.pinMode = .release) (hn : s.bitCnt ≠ 0) (hs : Sends s.cfg s.env (b :: c :: bs) s.now tc)
    (hnow : s.now < tc + shortLow s.cfg) : RunsReleased s s.rxBit (s.received [] b tc).rxBit := by
  have hlt : s.now < tc + s.cfg.cellLow b := hnow.trans_le (Nat.add_le_add_left (shortLow_le_cellLow _ b) _)
  have hcell := runsReleased_rxLow (s := s.push [.seq .rxShift]) hr hm hs hlt
  have hrst : s.env.rstAt (tc + s.cfg.cellLow b + s.cfg.ticks s.cfg.tSampleOffset) = false :=
    hs.quiet _ (by omega) (hr.sample_within b c bs tc)
  rw [rxBit_more hn]
  exact hcell.task hrst rfl rfl rfl

/-- The sample of a cell comes before the low phase of the next one can end. -/
theorem received_now_lt {s : State} (hr : Receives s.cfg) (b : Bit) (tc : Nat) :
    (s.received [] b tc).now < tc + s.cfg.cellTicks b + shortLow s.cfg := by
  have hoffset := hr.offset_lt b
  rw [cellTicks_eq]
  change tc + 0 + s.cfg.cellLow b + s.cfg.ticks s.cfg.tSampleOffset < _
  omega

/-- Cells are received one after the other, as long as one more follows them. -/
theorem runsReleased_rxBit_cells (bs : List Bit) {b c : Bit} {cs : List Bit} {s : State} {tc : Nat}
    (hr : Receives s.cfg) (hm : s.pinMode = .release) (hn : bs.length < s.bitCnt)
    (hs : Sends s.cfg s.env (bs ++ b :: c :: cs) s.now tc) (hnow : s.now < tc + shortLow s.cfg) :
    RunsReleased s s.rxBit (s.received bs b tc).rxBit := by
  induction bs generalizing s tc with
  | nil => exact runsReleased_rxBit hr hm hn.ne' hs hnow
  | cons a bs ih =>
    rw [List.cons_append] at hs
    obtain ⟨d, ds, hmore⟩ := List.exists_cons_of_ne_nil (l := bs ++ b :: c :: cs) (by simp)
    have hfirst := runsReleased_rxBit hr hm (Nat.ne_zero_of_lt hn) (hmore ▸ hs) hnow
    have hsends := hs.received (hnow.trans_le (Nat.add_le_add_left (shortLow_le_cellLow _ a) _))
    rw [← received_received]
    exact hfirst.trans (ih (s := s.received [] a tc) hr hm (Nat.lt_sub_of_add_lt hn) hsends (received_now_lt hr a tc))

/-! ## A read with an answer -/

theorem bitsTicks_append (p : Params) (bs cs : List Bit) :
    bitsTicks p (bs ++ cs) = bitsTicks p bs + bitsTicks p cs := by
  rw [bitsTicks, bitsWave_append, waveTicks_append, bitsTicks, bitsTicks]

/-- What a read leaves when the peripheral sends `w` from its poll `k` on. -/
def State.answered (s : State) (a : BitVec 4) (r : BitVec 2) (w : BitVec 16) (k : Nat) : State :=
  { s.settled a r k with
    bitCnt := 0, retBit := w.extractLsb' 0 1, rxWord := some w, outcome := .response
    now := waitFrom s a r + k + s.cfg.cellTicks s.cfg.startBit + bitsTicks s.cfg ((msbFirst 16 w).take 15)
      + s.cfg.cellLow (w.extractLsb' 0 1) + s.cfg.ticks s.cfg.tSampleOffset
    ctl := { s.ctl with point := .rxOffset 0 } }

theorem responseTicks_eq (p : Params) (w : BitVec 16) :
    responseTicks p w = p.cellTicks p.startBit + bitsTicks p ((msbFirst 16 w).take 15)
      + bitsTicks p [w.extractLsb' 0 1, p.stopBit] := by
  rw [Nat.add_assoc, ← bitsTicks_append, List.append_cons, msbFirst_last, ← bitsTicks_cons]
  rfl

/-- A read with an answer ends during its wait and the cells of the response: the last sample comes before the stop
cell has ended. -/
theorem answered_now {s : State} {k : Nat} (hr : Receives s.cfg) (hk : k < polls s) (a : BitVec 4) (r : BitVec 2)
    (w : BitVec 16) :
    ∃ d, (s.answered a r w k).now = waitFrom s a r + d ∧ d ≤ polls s + responseTicks s.cfg w := by
  have hlast := hr.sample_within (w.extractLsb' 0 1) s.cfg.stopBit []
    (k + s.cfg.cellTicks s.cfg.startBit + bitsTicks s.cfg ((msbFirst 16 w).take 15))
  refine ⟨_, by simp only [State.answered, Nat.add_assoc]; rfl, ?_⟩
  rw [responseTicks_eq]
  omega

theorem runsReleased_settled {s : State} {a : BitVec 4} {r : BitVec 2} {w : BitVec 16} {k : Nat}
    (hr : Receives s.cfg)
    (hs : Sends s.cfg s.env (responseCells s.cfg w) (waitFrom s a r) (waitFrom s a r + k)) :
    RunsReleased s (s.settled a r k).rxBit (s.answered a r w k) := by
  have hsends := sends_settled hr hs
  rw [← msbFirst_last, List.append_assoc] at hsends
  have hnow : (s.settled a r k).now < waitFrom s a r + k + s.cfg.cellTicks s.cfg.startBit + shortLow s.cfg :=
    Nat.lt_of_le_of_lt (Nat.add_le_add_left hr.startHigh _) (Nat.lt_add_of_pos_right hr.shortLow_pos)
  have hlen : ((msbFirst 16 w).take 15).length < 16 := by rw [List.length_take, msbFirst_length]; decide
  have hrun := runsReleased_rxBit_cells (s := s.settled a r k) _ hr rfl hlen hsends hnow
  rwa [rxBit_received_word w _ rfl rfl] at hrun

theorem waveWires_concat (s : State) (v : List Segment) (m : PinMode) (n : Nat) :
    s.waveWires (v ++ [(m, n)]) = s.waveWires v ++ List.replicate n (s.wiresAt m) := by
  rw [waveWires_append, waveWires_cons, waveWires_nil, List.append_nil]

/-- A read with an answer: its frame, and the released pin until the last sample. -/
theorem runs_sendRead_answered {s : State} {a : BitVec 4} {r : BitVec 2} {w : BitVec 16} {k : Nat}
    (hr : Receives s.cfg) (hk : k < polls s)
    (hresponds : Responds s.cfg s.env w (waitFrom s a r) (polls s + responseTicks s.cfg w) (waitFrom s a r + k))
    (hq : s.QuietRst (waveTicks (commandWave s.cfg a s.cfg.cmdRead r) + polls s + responseTicks s.cfg w)) :
    ∃ m, Runs (s.sendRead a r) (s.waveWires (commandWave s.cfg a s.cfg.cmdRead r ++ [(.release, m)]))
      (s.answered a r w k) := by
  have hs := hresponds.sends hk hq
  have hlow : s.env.periphLow (waitFrom s a r + k) = true :=
    Sends.low (b := s.cfg.startBit) hs (Nat.le_add_right _ _) le_rfl (Nat.lt_add_of_pos_right (hr.cellLow_pos _))
  have hwait := runs_sendRead_startDetected hk (fun t hle hlt => hs.high_before hle hlt) hlow (hq.mono (by omega))
  obtain ⟨n, hreceive⟩ := RunsReleased.trans ⟨_, runs_settle hr hs⟩ (runsReleased_settled hr hs)
  refine ⟨k + n, ?_⟩
  rw [waveWires_concat] at hwait
  rw [waveWires_concat, ← List.replicate_append_replicate, ← List.append_assoc]
  exact hwait.trans hreceive

end Sys2Proof.Machine

namespace Sys2Proof.Machine

/-! ## Bring-up with an answer (42_bring_up_and_poll.md R191, R192, R200) -/

theorem State.HostTakes.later {s t : State} {m n : Nat} (h : s.HostTakes n) (he : t.env = s.env) (k : Nat)
    (hn : t.now = s.now + k) (hm : k + m ≤ n) : t.HostTakes m := fun d hd => by
  have hready := h (k + d) (by omega)
  rwa [he, hn, Nat.add_assoc]

/-- The ticks of `n` silent attempts of bring-up, of one with an answer, and of all its polls. -/
def answerTicks (s : State) (n : Nat) (w : BitVec 16) : Nat :=
  n * waveTicks (attemptWave s.cfg) + attemptLead s.cfg + polls s + responseTicks s.cfg w

theorem answerTicks_zero (s : State) (w : BitVec 16) :
    answerTicks s 0 w = attemptLead s.cfg + polls s + responseTicks s.cfg w := by
  rw [answerTicks, Nat.zero_mul, Nat.zero_add]

theorem answerTicks_succ (s : State) (n : Nat) (w : BitVec 16) :
    answerTicks s (n + 1) w = waveTicks (attemptWave s.cfg) + answerTicks s.attempted n w := by
  have hrest : answerTicks s.attempted n w = answerTicks s n w := rfl
  rw [hrest, answerTicks, answerTicks, Nat.succ_mul]
  omega

/-- The peripheral is silent in `n` attempts of bring-up begun in `s` and sends `w` from poll `k` of the next one on;
the host is ready and no reset comes. -/
structure AnsweredAfter (s : State) (n k : Nat) (w : BitVec 16) : Prop where
  silent : ∀ i, i < n → Silent s.env (s.now + i * waveTicks (attemptWave s.cfg) + attemptLead s.cfg) (polls s)
  responds : Responds s.cfg s.env w (s.now + n * waveTicks (attemptWave s.cfg) + attemptLead s.cfg)
    (polls s + responseTicks s.cfg w) (s.now + n * waveTicks (attemptWave s.cfg) + attemptLead s.cfg + k)
  host : s.HostTakes (answerTicks s n w)
  quiet : s.QuietRst (answerTicks s n w + 1)

/-- One silent attempt later there is one less to come. -/
theorem AnsweredAfter.attempted {s : State} {n k : Nat} {w : BitVec 16} (h : AnsweredAfter s (n + 1) k w) :
    AnsweredAfter s.attempted n k w := by
  have hnow (i : Nat) : s.attempted.now + i * waveTicks (attemptWave s.cfg)
      = s.now + (i + 1) * waveTicks (attemptWave s.cfg) := by
    rw [Nat.succ_mul, Nat.add_comm (i * _), ← Nat.add_assoc]; rfl
  obtain ⟨hsilent, hresponds, hhost, hquiet⟩ := h
  rw [answerTicks_succ] at hhost hquiet
  rw [← hnow] at hresponds
  refine ⟨fun i hi => ?_, hresponds, hhost.later rfl _ rfl le_rfl, hquiet.later rfl _ rfl (Nat.add_assoc ..).ge⟩
  have hlater := hsilent (i + 1) (Nat.succ_lt_succ hi)
  rwa [← hnow] at hlater

/-- The waveform of `n` attempts without an answer and one that is answered in `m` ticks. -/
def foundWave (p : Params) (n m : Nat) : List Segment :=
  (List.replicate n (attemptWave p)).flatten ++ resetWave p ++ commandWave p p.deviceAddr p.cmdRead p.regBringup
    ++ [(.release, m)]

theorem foundWave_zero (p : Params) (m : Nat) :
    foundWave p 0 m = resetWave p ++ (commandWave p p.deviceAddr p.cmdRead p.regBringup ++ [(.release, m)]) :=
  List.append_assoc _ _ _

theorem foundWave_succ (p : Params) (n m : Nat) : foundWave p (n + 1) m = attemptWave p ++ foundWave p n m := by
  simp [foundWave, List.replicate_succ]

/-- In `u` the read of bring-up begun in `s` has received `w`, and the host is active. -/
structure Activated (s u : State) (w : BitVec 16) : Prop where
  host : u.hostActive = true ∧ u.hostPort = none
  read : u.outcome = .response ∧ u.rxWord = some w
  rest : u.ctl.rest = s.ctl.rest
  hooks : u.hookPress = s.hookPress ∧ u.hookRelease = s.hookRelease
  indicators : u.indNum = s.indNum ∧ u.indCaps = s.indCaps ∧ u.indScroll = s.indScroll

/-- Bring-up begun in `s` activates the host after the attempts of `foundWave`. -/
def FindsPeripheral (s : State) (n : Nat) (w : BitVec 16) : Prop :=
  ∃ m u, Runs s.bringUp (s.waveWires (foundWave s.cfg n m) ++ [{ s.wiresAt .release with host := some .activate }]) u
    ∧ Activated s u w

/-- The state in which the check of bring-up finds the response of the attempt begun in `s`. -/
def State.bringUpAnswered (s : State) (w : BitVec 16) (k : Nat) : State :=
  (s.bringUpRead.answered s.cfg.deviceAddr s.cfg.regBringup w k).withRest s.ctl.rest

theorem bringUpAnswered_now {s : State} {k : Nat} (hr : Receives s.cfg) (hk : k < polls s) (w : BitVec 16) :
    ∃ d, (s.bringUpAnswered w k).now = s.now + d ∧ d ≤ attemptLead s.cfg + polls s + responseTicks s.cfg w := by
  obtain ⟨d, hnow, hd⟩ := answered_now (s := s.bringUpRead) hr hk s.cfg.deviceAddr s.cfg.regBringup w
  rw [waitFrom_bringUpRead, Nat.add_assoc] at hnow
  exact ⟨_, hnow, (Nat.add_le_add_left hd _).trans_eq (Nat.add_assoc ..).symm⟩

/-- The attempt that is answered: the reset pulse, the read that receives the word, and the hand-over of `activate`. -/
theorem AnsweredAfter.found_now {s : State} {k : Nat} {w : BitVec 16} (h : AnsweredAfter s 0 k w)
    (hr : Receives s.cfg) (hk : k < polls s) : FindsPeripheral s 0 w := by
  obtain ⟨-, hresponds, hhost, hquiet⟩ := h
  rw [Nat.zero_mul, Nat.add_zero, ← waitFrom_bringUpRead] at hresponds
  rw [answerTicks_zero] at hhost hquiet
  have hlead : attemptLead s.cfg = waveTicks (resetWave s.cfg)
      + waveTicks (commandWave s.cfg s.cfg.deviceAddr s.cfg.cmdRead s.cfg.regBringup) := rfl
  have hquietRead : s.bringUpRead.QuietRst (waveTicks (commandWave s.cfg s.cfg.deviceAddr s.cfg.cmdRead
      s.cfg.regBringup) + polls s + responseTicks s.cfg w) :=
    hquiet.later rfl (waveTicks (resetWave s.cfg)) rfl (by omega)
  obtain ⟨m, hread⟩ := runs_sendRead_answered (s := s.bringUpRead) hr hk hresponds hquietRead
  obtain ⟨d, hnow, hd⟩ := bringUpAnswered_now hr hk w
  have hready : (s.bringUpAnswered w k).hostReady = true := by
    have hlater := hhost d hd
    rwa [← hnow] at hlater
  have hquietCheck : (s.bringUpAnswered w k).QuietRst 1 := hquiet.later rfl d hnow (by omega)
  have hactivate := runs_buCheck_response (s := s.bringUpAnswered w k) rfl hready hquietCheck
  have hcheck := runs_task (s := s.bringUpRead.answered s.cfg.deviceAddr s.cfg.regBringup w k) hquietCheck.now rfl
    (.seq .buCheck) s.ctl.rest rfl rfl hactivate
  have hrun := runs_bringUp (hquiet.mono (by omega)) (hread.trans hcheck)
  refine ⟨m, (s.bringUpAnswered w k).activated, ?_, ⟨⟨rfl, rfl⟩, ⟨rfl, rfl⟩, rfl, ⟨rfl, rfl⟩, rfl, rfl, rfl⟩⟩
  rw [foundWave_zero, waveWires_append, List.append_assoc]
  exact hrun

/-- By induction on the silent attempts, each of which leads to the next. -/
theorem AnsweredAfter.found (n : Nat) {s : State} {k : Nat} {w : BitVec 16} (h : AnsweredAfter s n k w)
    (hr : Receives s.cfg) (hk : k < polls s) : FindsPeripheral s n w := by
  induction n generalizing s with
  | zero => exact h.found_now hr hk
  | succ n ih =>
    obtain ⟨m, u, hrun, hhost, hread, hrest, hhooks, hindicators⟩ := ih h.attempted hr hk
    have hfirst := runs_bringUp_unanswered (s := s) (by simpa using h.silent 0 n.succ_pos)
      (h.quiet.mono (by rw [answerTicks_succ]; omega))
    refine ⟨m, u, ?_, hhost, hread, hrest, hhooks, hindicators⟩
    rw [foundWave_succ, waveWires_append, List.append_assoc]
    exact hfirst.trans hrun

/-- Settles O41: `main` is bring-up with the polling loop behind it. -/
theorem bringUpSucceedsOnTheAnsweredAttempt : Obligations.BringUpSucceedsOnTheAnsweredAttempt := by
  intro s n k w hq ht _ hport hr hk hsilent hresponds hhost hquiet
  have hanswer : AnsweredAfter ((s.withRest []).push [.op .pollLoop]) n k w := ⟨hsilent, hresponds, hhost, hquiet⟩
  obtain ⟨m, u, hrun, ⟨hactive, hidle⟩, ⟨ho, hx⟩, hrest, ⟨hpress, hrelease⟩, hind⟩ := hanswer.found n hr hk
  refine ⟨_, u, m, ?_, ?_, waveWires_pin s _, hactive, ho, hx, hrest, hidle, hpress, hrelease, hind⟩
  · rw [wires_eq_wiresAt hquiet.now]
    exact runs_task hquiet.now ht (.op .main) [] hq (exec_main _) hrun
  · rw [← hport]
    exact waveWires_ports s _

end Sys2Proof.Machine

namespace Sys2Proof.Machine

/-! ## The collaborators: how an operation begins (43_key_event_decoder.md R220, R222) -/

theorem exec_press (s : State) (k : LogicalKey) : exec (.press k) s = .next (s.hostEmit (.press k)) := rfl
theorem exec_release (s : State) (k : LogicalKey) : exec (.release k) s = .next (s.hostEmit (.release k)) := rfl
theorem exec_writeAndAutoRelease (s : State) (k : LogicalKey) :
    exec (.writeAndAutoRelease k) s = .next (s.hostEmit (.writeAndAutoRelease k)) := rfl
theorem exec_activate (s : State) : exec .activate s = .next (s.hostEmit .activate) := rfl
theorem exec_hostEmit (s : State) (c : HostCall) : exec (.hostEmit c) s = .next (s.hostEmit c) := rfl
theorem exec_powerKeyPress (s : State) : exec .powerKeyPress s = .next (s.hookEmit .powerKeyPress) := rfl
theorem exec_powerKeyRelease (s : State) : exec .powerKeyRelease s = .next (s.hookEmit .powerKeyRelease) := rfl
theorem exec_hookEmit (s : State) (h : HookEvent) : exec (.hookEmit h) s = .next (s.hookEmit h) := rfl

theorem hostEmit_begun (s : State) (c : HostCall) : s.hostEmit c = hostBegun s c := by
  rcases hostEmit_cases s c with ⟨hready, h⟩ | ⟨hbusy, h⟩ <;> rw [h, hostBegun]
  · rw [if_pos hready]
  · rw [if_neg (Bool.eq_false_iff.mp hbusy)]

theorem hookEmit_begun (s : State) (h : HookEvent) : s.hookEmit h = hookBegun s h := by
  cases h <;> simp [hookEmit_eq, hookBegun, State.raiseHook, State.push, State.hold]

/-- Settles O18: each of the five is `hostEmit` of its operation. -/
theorem hostOperationsBegin : Obligations.HostOperationsBegin := by
  refine fun s => ⟨fun k => ?_, fun k => ?_, fun k => ?_, ?_, fun c => ?_⟩
  · rw [exec_press, hostEmit_begun]
  · rw [exec_release, hostEmit_begun]
  · rw [exec_writeAndAutoRelease, hostEmit_begun]
  · rw [exec_activate, hostEmit_begun]
  · rw [exec_hostEmit, hostEmit_begun]

/-- Settles O19: each of the three is `hookEmit` of its hook, and raises the strobe of its hook alone. -/
theorem hooksBegin : Obligations.HooksBegin := by
  refine fun s => ⟨?_, ?_, fun h => ?_⟩
  · rw [exec_powerKeyPress, hookEmit_begun]
  · rw [exec_powerKeyRelease, hookEmit_begun]
  · rw [exec_hookEmit, hookEmit_begun]

/-! ## The event byte (30_encoding.md R110, 43_key_event_decoder.md R211, R212) -/

@[simp] theorem eventRel_append (rel : Bit) (scan : BitVec 7) : eventRel (rel ++ scan) = rel :=
  BitVec.extractLsb'_append_eq_left

@[simp] theorem eventScan_append (rel : Bit) (scan : BitVec 7) : eventScan (rel ++ scan) = scan := by
  rw [eventScan, BitVec.extractLsb'_append_eq_of_add_le (by decide), BitVec.extractLsb'_eq_self]

theorem exec_decodeSlot (s : State) (e : Byte) : exec (.decodeSlot e) s = .next (s.decodeSlot e) := rfl

/-- A case-lock transition that is no toggle is a press under the setting of U20 (log entry 22). -/
theorem togglesOn_eq_false_iff (p : Params) (rel : Bit) :
    p.togglesOn rel = false ↔ p.capsTransition = .releaseOnly ∧ rel = 0#1 := by
  rw [← Bool.not_eq_true, togglesOn_iff, not_or]
  refine and_congr ?_ ?_
  · cases p.capsTransition <;> simp
  · rcases bit_zero_or_one rel with rfl | rfl <;> decide

section
variable (s : State) {rel : Bit} {scan : BitVec 7}

theorem decodeSlot_unmapped (hp : s.cfg.powerKeyDetect = .never ∨ scan ≠ scanSentinel)
    (hk : s.cfg.keymapAt scan = none) : s.decodeSlot (rel ++ scan) = s.presentScan scan := by
  rw [decodeSlot_lookup s _ (by simpa using hp), eventRel_append, eventScan_append, lookupKey_none s rel scan hk]
  rfl

theorem decodeSlot_toggle (hp : s.cfg.powerKeyDetect = .never ∨ scan ≠ scanSentinel)
    (hk : s.cfg.keymapAt scan = some s.cfg.keyCaps) (ht : s.cfg.capsTransition = .any ∨ rel = 1#1) :
    s.decodeSlot (rel ++ scan) = (s.presentScan scan).toggleKey := by
  rw [decodeSlot_lookup s _ (by simpa using hp), eventRel_append, eventScan_append,
    lookupKey_caps s rel scan hk ((togglesOn_iff _ _).mpr ht)]

theorem decodeSlot_plain {k : LogicalKey} (hp : s.cfg.powerKeyDetect = .never ∨ scan ≠ scanSentinel)
    (hk : s.cfg.keymapAt scan = some k)
    (hplain : k ≠ s.cfg.keyCaps ∨ (s.cfg.capsTransition = .releaseOnly ∧ rel = 0#1)) :
    s.decodeSlot (rel ++ scan) = (s.presentScan scan).hostEmit (keyCall rel k) := by
  rw [decodeSlot_lookup s _ (by simpa using hp), eventRel_append, eventScan_append,
    lookupKey_plain s rel scan k hk (hplain.imp_right (togglesOn_eq_false_iff _ _).mpr)]
  rfl

end

/-- Settles O20: the hook, the ignored code, the toggle and the plain key are the branches of `decodeSlot`. -/
theorem eventByteBranches : Obligations.EventByteBranches := by
  refine fun rel scan s => ⟨fun hd hs => ?_, fun hp => ⟨fun hk => ?_, fun hk ht => ?_, fun k hk hplain => ?_⟩⟩
  · rw [exec_decodeSlot, decodeSlot_hook s _ hd (by simpa using hs), hookEmit_begun, eventRel_append, hookOf]
  · rw [exec_decodeSlot, decodeSlot_unmapped s hp hk, State.presentScan]
  · rw [exec_decodeSlot, decodeSlot_toggle s hp hk ht, State.toggleKey, hostEmit_begun]
    rfl
  · rw [exec_decodeSlot, decodeSlot_plain s hp hk hplain, hostEmit_begun, State.presentScan, keyCall]

/-! ## The two slots of a word (R210, 30_encoding.md R111) -/

theorem slot0_append (e f : Byte) : slot0 (e ++ f) = e := slot0_keyWordOf e f

theorem slot1_append (e f : Byte) : slot1 (e ++ f) = f := by
  rw [slot1, BitVec.extractLsb'_append_eq_of_add_le (by decide), BitVec.extractLsb'_eq_self]

theorem exec_keyWord (s : State) (e f : Byte) : exec (.keyWord e f) s = .next (s.decodeWord (e ++ f)) := rfl

/-- The state in which slot 0 of a word is decoded: slot 1 waits. -/
theorem decodeWord_append (s : State) (e f : Byte) :
    s.decodeWord (e ++ f) = ((s.beginSlot 0).push [.seq (.decodeSecond f)]).decodeSlot e := by
  rw [State.decodeWord, slot0_append, slot1_append]

/-- Settles O22: a word decodes its slot 0 in the state in which slot 1 waits. -/
theorem wordDecodesSlotZeroFirst : Obligations.WordDecodesSlotZeroFirst := by
  refine fun s e f => ⟨_, exec_decodeSlot _ e, ?_, ?_⟩
  · rw [exec_decodeWord, decodeWord_append]; rfl
  · rw [exec_keyWord, decodeWord_append]; rfl

/-- Settles O23: the statement that waits for slot 1 decodes its byte. -/
theorem slotOneIsDecodedNext : Obligations.SlotOneIsDecodedNext := by
  intro s f ts hr ht hq
  refine ⟨_, exec_decodeSlot _ f, ?_⟩
  rw [step_run s hr ht _ ts hq]
  rfl

end Sys2Proof.Machine

namespace Sys2Proof.Machine

/-! ## The wait for the host (43_key_event_decoder.md R220, 70_reset_and_hazards.md R291) -/

/-- A loop that waits at one control point stands there after any number of ticks. -/
theorem TickLoop.runs_waiting {q : SeqTask} {loop : State → State} (hloop : TickLoop q loop) {p : Point} {n : Nat}
    {s : State} (hn : 0 < n) (hq : s.QuietRst n)
    (hwait : ∀ d, d < n → loop (s.after d) = ((s.after d).push [.seq q]).hold p 1) :
    Runs (loop s) (List.replicate n (s.wiresAt s.pinMode)) { loop s with timer := 0, now := s.now + n } := by
  obtain ⟨m, rfl⟩ := Nat.exists_eq_add_of_lt hn
  rw [Nat.zero_add] at hq hwait ⊢
  have hturns := hloop.runs m (hq.mono (Nat.le_succ m)) fun d hd => ⟨p, hwait d (hd.trans (Nat.lt_succ_self m))⟩
  have hlast := runs_hold (s := ((s.after m).push [.seq q]).hold p 1) 1 rfl (hq.after m le_rfl)
  have hfirst : loop s = (s.push [.seq q]).hold p 1 := hwait 0 (Nat.succ_pos m)
  rw [hwait m (Nat.lt_succ_self m)] at hturns
  rw [← List.replicate_append_replicate, hfirst]
  rw [hfirst] at hturns
  exact hturns.trans hlast

theorem tickLoop_hostEmit (c : HostCall) : TickLoop (.hostTry c) (State.hostEmit c) :=
  ⟨fun _ => rfl, fun _ _ _ => rfl⟩

/-- A host that is not ready is asked again one tick later. -/
theorem hostEmit_waits {s : State} (c : HostCall) (hbusy : s.hostReady = false) :
    s.hostEmit c = (s.push [.seq (.hostTry c)]).hold .hostWait 1 := hostEmit_busy s c hbusy

/-- The wait for the host lasts as long as it is not ready. -/
theorem runs_hostEmit_while_busy (c : HostCall) (n : Nat) {s : State} (hq : s.QuietRst n)
    (hbusy : ∀ d, d < n → s.env.hostReady (s.now + d) = false) :
    Runs (s.hostEmit c) (List.replicate n (s.wiresAt s.pinMode)) ((s.after n).hostEmit c) :=
  (tickLoop_hostEmit c).runs n hq fun d hd => ⟨_, hostEmit_waits (s := s.after d) c (hbusy d hd)⟩

/-- Settles O35: the wait through the ticks without a ready host, then the one tick of the hand-over. -/
theorem hostOperationWaitsThenOneTick : Obligations.HostOperationWaitsThenOneTick := by
  intro s c n hport hbusy hready hq
  have hwait := runs_hostEmit_while_busy c n (hq.mono (Nat.le_succ n)) hbusy
  have hop := runs_hostEmit_ready (s := s.after n) c hready (hq.after n le_rfl)
  refine ⟨_, exec_hostEmit s c, ?_⟩
  rw [wires_eq_wiresAt hq.now, hport]
  exact hwait.trans hop

/-- Settles O36: every turn of the wait stands at the same control point. -/
theorem hostWaitHangs : Obligations.HostWaitHangs := by
  intro s c n hn hbusy hq
  have hrun := (tickLoop_hostEmit c).runs_waiting hn hq fun d hd =>
    hostEmit_waits (s := s.after d) c (hbusy d hd)
  have hfirst := hostEmit_waits (s := s) c (hbusy 0 hn)
  rw [← wires_eq_wiresAt hq.now] at hrun
  exact ⟨_, exec_hostEmit s c, by rw [hfirst]; rfl, hrun, by rw [hfirst]; rfl⟩

/-! ## The strobe of a hook (R222) -/

/-- When the strobe falls after its tick, both strobes are down again. -/
theorem dropHook_hookBegun {s : State} (h : HookEvent) (hpress : s.hookPress = false)
    (hrelease : s.hookRelease = false) (n : Nat) (ctl : Ctl) :
    State.dropHook h { hookBegun s h with timer := 0, now := n, ctl := ctl }
      = { s with timer := 0, now := n, ctl := ctl } := by
  cases h <;> simp [State.dropHook, hookBegun, hpress, hrelease]

/-- Settles O37: the strobe rises when the hook begins and falls after its one tick. -/
theorem hookStrobesOneTick : Obligations.HookStrobesOneTick := by
  intro s h hpress hrelease hq
  refine ⟨_, exec_hookEmit s h, ?_⟩
  have hfalls : runTask (.seq (.hookDone h)) { hookBegun s h with
      timer := 0, now := s.now + 1, ctl := { s.ctl with point := .hookOp } }
        = .next { s with timer := 0, now := s.now + 1, ctl := { s.ctl with point := .hookOp } } :=
    congrArg Host.Outcome.next (dropHook_hookBegun h hpress hrelease _ _)
  rw [hookEmit_begun, wires_eq_wiresAt hq.now]
  refine runs_tick_task rfl hq rfl hfalls (Runs.refl _) ?_
  simp [State.wiresAt, hookBegun, hpress, hrelease]

/-! ## Plain keys with a ready host (R210, R215, R223) -/

/-- The host has taken an operation: its one tick has passed and the port is free again. -/
def State.handedOver (s : State) : State :=
  { s with timer := 0, hostPort := none, now := s.now + 1, ctl := { s.ctl with point := .hostOp } }

/-- An operation other than `activate` changes nothing but the port, for one tick. -/
theorem runs_hostEmit_handedOver {s : State} {c : HostCall} (hc : c ≠ .activate) (hready : s.hostReady = true)
    (hq : s.QuietRst 1) :
    Runs (s.hostEmit c) [{ s.wiresAt s.pinMode with host := some c }] s.handedOver := by
  have hrun := runs_hostEmit_ready c hready hq
  rwa [decide_eq_false hc, Bool.or_false] at hrun

/-- The slot of a plain key hands its operation over. -/
theorem runs_decodeSlot_plain {s : State} {rel : Bit} {scan : BitVec 7} {k : LogicalKey}
    (hp : s.cfg.powerKeyDetect = .never ∨ scan ≠ scanSentinel) (hk : s.cfg.keymapAt scan = some k)
    (hplain : k ≠ s.cfg.keyCaps ∨ (s.cfg.capsTransition = .releaseOnly ∧ rel = 0#1)) (hready : s.hostReady = true)
    (hq : s.QuietRst 1) :
    Runs (s.decodeSlot (rel ++ scan)) [{ s.wiresAt s.pinMode with host := some (keyCall rel k) }]
      (s.presentScan scan).handedOver := by
  rw [decodeSlot_plain s hp hk hplain]
  exact runs_hostEmit_handedOver (s := s.presentScan scan) (plainCall_ne_activate rel k) hready hq

theorem beginSlot_zero (s : State) :
    s.beginSlot 0 = { s with slotIdx := 0, ctl := { s.ctl with activity := .plSlot0 } } := rfl

theorem beginSlot_one (s : State) :
    s.beginSlot 1 = { s with slotIdx := 1, ctl := { s.ctl with activity := .plSlot1 } } := rfl

/-- What the two slots of a word leave when each hands an operation over. -/
theorem bothSlots_handedOver (s : State) (scan0 scan1 : BitVec 7) :
    ((((s.beginSlot 0).presentScan scan0).handedOver.beginSlot 1).presentScan scan1).handedOver =
      { s with
        timer := 0, hostPort := none, kmScan := scan1, slotIdx := 1, now := s.now + 2
        ctl := { s.ctl with activity := .plSlot1, point := .hostOp } } := by
  rw [beginSlot_one, beginSlot_zero]
  rfl

/-- Settles O38: slot 0 hands its operation over, and at the end of its tick slot 1 does. -/
theorem plainWordGivesTwoOperations : Obligations.PlainWordGivesTwoOperations := by
  intro s rel0 rel1 scan0 scan1 k0 k1 hk0 hk1 hplain0 hplain1 hp hport hready0 hready1 hq
  have hfirst := runs_decodeSlot_plain (s := (s.beginSlot 0).push [.seq (.decodeSecond (rel1 ++ scan1))])
    (hp.imp_right And.left) hk0 hplain0 hready0 (hq.mono (by decide))
  have hsecond := runs_decodeSlot_plain (s := ((s.beginSlot 0).presentScan scan0).handedOver.beginSlot 1)
    (hp.imp_right And.right) hk1 hplain1 hready1 (hq.later rfl 1 rfl le_rfl)
  have hslot1 := runs_task
    (s := (((s.beginSlot 0).push [.seq (.decodeSecond (rel1 ++ scan1))]).presentScan scan0).handedOver)
    (hq 1 (by decide)) rfl (.seq (.decodeSecond (rel1 ++ scan1))) s.ctl.rest rfl rfl hsecond
  rw [bothSlots_handedOver] at hslot1
  refine ⟨_, exec_decodeWord s _, ?_⟩
  rw [wires_eq_wiresAt hq.now, decodeWord_append, hport]
  exact hfirst.trans hslot1

end Sys2Proof.Machine

namespace Sys2Proof.Machine

/-! ## Case-lock transitions (43_key_event_decoder.md R216, R217, 44_indicator_driver.md R242) -/

/-- The write frame of the indicators of a state. -/
def State.indicatorWave (s : State) : List Segment := writeWave s.cfg s.cfg.deviceAddr s.cfg.regLeds s.indicators

/-- The write frame of the indicators has been sent. -/
def State.indicatorsWritten (s : State) : State :=
  { s with
    pinMode := .release, timer := 0, txData := s.indicators, bitCnt := 0
    txCmd := cmdByte s.cfg.deviceAddr s.cfg.cmdWrite s.cfg.regLeds, now := s.now + waveTicks s.indicatorWave
    ctl := { s.ctl with point := .dstopHigh } }

theorem runs_writeIndicators (s : State) (hq : s.QuietRst (waveTicks s.indicatorWave)) :
    Runs s.writeIndicators (s.waveWires s.indicatorWave) s.indicatorsWritten :=
  runs_sendWrite s _ _ _ hq

/-- The toggle branch with a ready host: the flip, the one tick of the operation, then the write frame with the new
state. -/
theorem runs_toggleKey {s : State} (hm : s.pinMode = .release) (hready : s.hostReady = true)
    (hq : s.QuietRst (1 + waveTicks s.flipCaps.indicatorWave)) :
    Runs s.toggleKey ({ s.wiresAt .release with host := some (.writeAndAutoRelease s.cfg.keyCaps) }
      :: s.flipCaps.handedOver.waveWires s.flipCaps.indicatorWave) s.flipCaps.handedOver.indicatorsWritten := by
  have hop := runs_hostEmit_handedOver (s := s.flipCaps.push [.op .writeIndicators])
    (c := .writeAndAutoRelease s.cfg.keyCaps) HostCall.noConfusion hready (hq.mono (by omega))
  have hwrite := runs_writeIndicators s.flipCaps.handedOver (hq.later rfl 1 rfl le_rfl)
  have hnext := runs_task (s := (s.flipCaps.push [.op .writeIndicators]).handedOver) (hq 1 (by omega)) rfl
    (.op .writeIndicators) s.ctl.rest rfl (exec_writeIndicators _) hwrite
  rw [← hm]
  exact hop.trans hnext

/-- The byte is a case-lock transition that toggles: it maps to `KEY_CAPS`, its release flag toggles (log entry 22), and
it is no power-key event. -/
def TogglesCaps (p : Params) (e : Byte) : Prop :=
  p.keymapAt (eventScan e) = some p.keyCaps ∧ (p.capsTransition = .any ∨ eventRel e = 1#1)
    ∧ (p.powerKeyDetect = .never ∨ eventScan e ≠ scanSentinel)

theorem decodeSlot_of_toggles {s : State} {e : Byte} (h : TogglesCaps s.cfg e) :
    s.decodeSlot e = (s.presentScan (eventScan e)).toggleKey := by
  obtain ⟨hk, ht, hp⟩ := h
  rw [decodeSlot_lookup s e hp, lookupKey_caps s _ _ hk ((togglesOn_iff _ _).mpr ht)]

/-! ### One transition -/

/-- The ticks from the state `s` on that the toggles of `n` transitions take. -/
def togglesTicks (s : State) (n : Nat) : Nat := waveTicks (togglesWave s.cfg s.indNum s.indScroll n s.indCaps)

/-- The case-lock transition `e` has been decoded and the tasks `ts` remain. -/
def State.toggled (s : State) (e : Byte) (ts : List Task) : State :=
  { s with
    pinMode := .release, timer := 0, indCaps := !s.indCaps, kmScan := eventScan e, hostPort := none
    txData := s.flipCaps.indicators, txCmd := cmdByte s.cfg.deviceAddr s.cfg.cmdWrite s.cfg.regLeds, bitCnt := 0
    now := s.now + (1 + waveTicks s.flipCaps.indicatorWave)
    ctl := { s.ctl with point := .dstopHigh, rest := ts } }

/-- Neither the continuation nor the lookup nor the hand-over shows in the indicator frame. -/
theorem toggled_eq (s : State) (e : Byte) (ts : List Task) :
    ((s.withRest ts).presentScan (eventScan e)).flipCaps.handedOver.indicatorsWritten = s.toggled e ts := by
  have hword : ((s.withRest ts).presentScan (eventScan e)).flipCaps.handedOver.indicators = s.flipCaps.indicators :=
    rfl
  have hwave : ((s.withRest ts).presentScan (eventScan e)).flipCaps.handedOver.indicatorWave
      = s.flipCaps.indicatorWave := rfl
  rw [State.indicatorsWritten, hword, hwave, State.toggled, ← Nat.add_assoc]
  rfl

/-- The wires during a toggle: the operation in one released tick, then the write frame on a free port. -/
def State.toggleWires (s : State) : List Wires :=
  { s.wiresAt .release with host := some (.writeAndAutoRelease s.cfg.keyCaps) }
    :: s.flipCaps.handedOver.waveWires s.flipCaps.indicatorWave

theorem toggleWires_pin (s : State) :
    s.toggleWires.map Wires.pin = expand (toggleWave s.cfg s.indNum s.indCaps s.indScroll) := by
  rw [State.toggleWires, List.map_cons, waveWires_pin]
  rfl

theorem filterMap_host_waveWires {s : State} (hport : s.hostPort = none) (w : List Segment) :
    (s.waveWires w).filterMap Wires.host = [] :=
  List.filterMap_eq_nil_iff.mpr fun x hx => (waveWires_ports s w x hx).1.trans hport

theorem toggleWires_host (s : State) :
    s.toggleWires.filterMap Wires.host = [.writeAndAutoRelease s.cfg.keyCaps] := by
  rw [State.toggleWires, List.filterMap_cons_some (f := Wires.host) rfl, filterMap_host_waveWires rfl]

theorem togglesTicks_succ (s : State) (n : Nat) (e : Byte) (ts : List Task) :
    togglesTicks s (n + 1) = 1 + waveTicks s.flipCaps.indicatorWave + togglesTicks (s.toggled e ts) n :=
  waveTicks_append _ _

/-- The decoding of one case-lock transition at the head of the continuation. -/
theorem runs_toggle {s : State} {e : Byte} {ts : List Task} (htog : TogglesCaps s.cfg e)
    (hrest : s.ctl.rest = .op (.decodeSlot e) :: ts) (ht : s.timer = 0) (hm : s.pinMode = .release)
    (hready : s.hostReady = true) (hq : s.QuietRst (1 + waveTicks s.flipCaps.indicatorWave)) :
    Runs s s.toggleWires (s.toggled e ts) := by
  have hrun := runs_toggleKey (s := (s.withRest ts).presentScan (eventScan e)) hm hready hq
  rw [← decodeSlot_of_toggles (s := s.withRest ts) htog, toggled_eq] at hrun
  exact runs_task hq.now ht _ ts hrest (exec_decodeSlot _ e) hrun

/-! ### Transitions in a row -/

/-- What `n` toggles do, from `s` to `u` with the wires `ws`: flips, operations and write frames, and what they keep. -/
structure TogglesRun (s u : State) (n : Nat) (ws : List Wires) : Prop where
  caps : u.indCaps = (s.indCaps ^^ decide (n % 2 = 1))
  kept : u.indNum = s.indNum ∧ u.indScroll = s.indScroll ∧ u.outcome = s.outcome ∧ u.rxWord = s.rxWord
    ∧ u.hostActive = s.hostActive
  now : u.now = s.now + togglesTicks s n
  host : ws.filterMap Wires.host = List.replicate n (.writeAndAutoRelease s.cfg.keyCaps)
  pin : ws.map Wires.pin = expand (togglesWave s.cfg s.indNum s.indScroll n s.indCaps)

theorem TogglesRun.nil (s : State) : TogglesRun s s 0 [] :=
  ⟨(Bool.xor_false _).symm, ⟨rfl, rfl, rfl, rfl, rfl⟩, rfl, rfl, rfl⟩

theorem xor_odd_succ (c : Bool) (n : Nat) :
    (c ^^ decide ((n + 1) % 2 = 1)) = (!c ^^ decide (n % 2 = 1)) := by
  rcases Nat.mod_two_eq_zero_or_one n with h | h <;> simp [Nat.add_mod, h]

theorem TogglesRun.cons {s u : State} {e : Byte} {ts : List Task} {n : Nat} {ws : List Wires}
    (h : TogglesRun (s.toggled e ts) u n ws) : TogglesRun s u (n + 1) (s.toggleWires ++ ws) where
  caps := h.caps.trans (xor_odd_succ s.indCaps n).symm
  kept := h.kept
  now := by rw [h.now, togglesTicks_succ s n e ts, ← Nat.add_assoc]; rfl
  host := by rw [List.filterMap_append, toggleWires_host, h.host]; rfl
  pin := by rw [List.map_append, toggleWires_pin, h.pin, togglesWave, expand_append]; rfl

/-- By induction on the events, each of which toggles and leads to the next. -/
theorem runs_toggles (es : List Byte) {s : State} {ts : List Task} (htog : ∀ e ∈ es, TogglesCaps s.cfg e)
    (hrest : s.ctl.rest = es.map (fun e => Task.op (.decodeSlot e)) ++ ts) (ht : s.timer = 0)
    (hm : s.pinMode = .release) (hhost : s.HostTakes (togglesTicks s es.length))
    (hq : s.QuietRst (togglesTicks s es.length)) :
    ∃ ws u, Runs s ws u ∧ u.ctl.rest = ts ∧ TogglesRun s u es.length ws := by
  induction es generalizing s with
  | nil => exact ⟨[], s, Runs.refl s, hrest, .nil s⟩
  | cons e es ih =>
    rw [List.length_cons, togglesTicks_succ s es.length e (es.map (fun e => Task.op (.decodeSlot e)) ++ ts)] at hhost hq
    rw [List.forall_mem_cons] at htog
    obtain ⟨htoge, htoges⟩ := htog
    have hfirst := runs_toggle htoge hrest ht hm (hhost 0 (Nat.zero_le _)) (hq.mono (Nat.le_add_right _ _))
    obtain ⟨ws, u, hlater, hend, htoggles⟩ := ih (s := s.toggled e _) htoges rfl rfl rfl
      (hhost.later rfl _ rfl le_rfl) (hq.later rfl _ rfl le_rfl)
    exact ⟨_, u, hfirst.trans hlater, hend, htoggles.cons⟩

/-- Settles O39: the run of the toggles, with its effects listed. -/
theorem everyCapsTransitionToggles : Obligations.EveryCapsTransitionToggles := by
  intro s es ts htog hrest ht hm _ hhost hq
  obtain ⟨ws, u, hrun, hend, hcaps, ⟨hnum, hscroll, hout, hword, hactive⟩, hnow, hops, hpin⟩ :=
    runs_toggles es htog hrest ht hm hhost hq
  exact ⟨ws, u, hrun, hend, hcaps, hnum, hscroll, hout, hword, hactive, hnow, hops, hpin⟩

end Sys2Proof.Machine

namespace Sys2Proof.Machine

/-! ## Before activation (43_key_event_decoder.md R221, 42_bring_up_and_poll.md R192, 10_state.md R24) -/

/-- `host_active` and the lines to the two collaborators of the decoder. -/
structure KeyLines where
  active : Bool
  port : Option HostCall
  press : Bool
  release : Bool

def State.keyLines (s : State) : KeyLines where
  active := s.hostActive
  port := s.hostPort
  press := s.hookPress
  release := s.hookRelease

/-- While the host is not active, no operation and no strobe stands on the lines. -/
def KeyLines.Held (l : KeyLines) : Prop :=
  l.active = false → l.port = none ∧ l.press = false ∧ l.release = false

theorem KeyLines.held_of_active {l : KeyLines} (h : l.active = true) : l.Held :=
  fun hf => absurd (hf.symm.trans h) Bool.false_ne_true

/-! ### The operations of bring-up -/

theorem sendBits_keyLines (s : State) (f : TxField) : (s.sendBits f).keyLines = s.keyLines := by
  rcases sendBits_cases s f with ⟨-, h⟩ | ⟨i, -, h⟩ <;> rw [h] <;> rfl

theorem waitPoll_keyLines (s : State) : s.waitPoll.keyLines = s.keyLines := by
  rcases waitPoll_cases s with ⟨-, h⟩ | ⟨-, -, h⟩ | ⟨-, -, h⟩ <;> rw [h] <;> rfl

theorem rxHigh_keyLines (s : State) : s.rxHigh.keyLines = s.keyLines := by
  rcases rxHigh_cases s with ⟨-, h⟩ | ⟨-, h⟩ <;> rw [h] <;> rfl

theorem rxLow_keyLines (s : State) : s.rxLow.keyLines = s.keyLines := by
  rcases rxLow_cases s with ⟨-, h⟩ | ⟨-, h⟩ <;> rw [h] <;> rfl

theorem rxBit_keyLines (s : State) : s.rxBit.keyLines = s.keyLines := by
  rcases rxBit_cases s with ⟨-, h⟩ | ⟨-, h⟩ <;> rw [h]
  · rfl
  · exact rxLow_keyLines (s.push [.seq .rxShift])

theorem sendRead_keyLines (s : State) (a : BitVec 4) (r : BitVec 2) : (s.sendRead a r).keyLines = s.keyLines := by
  rw [sendRead_eq]; rfl

/-- The hand-over of `activate` sets `host_active` at its tick (log entry 8). -/
theorem hostEmit_activate_held {s : State} (hs : s.keyLines.Held) : (s.hostEmit .activate).keyLines.Held := by
  rcases hostEmit_cases s .activate with ⟨-, h⟩ | ⟨-, h⟩ <;> rw [h]
  · exact KeyLines.held_of_active (Bool.or_true _)
  · exact hs

theorem buCheck_held {s : State} (hs : s.keyLines.Held) : s.buCheck.keyLines.Held := by
  by_cases ho : s.outcome = .response
  · rw [buCheck_response s ho]; exact hostEmit_activate_held (s := s.enter .buActivate) hs
  · rw [buCheck_retry s ho]; exact hs

/-- The tasks that bring-up consists of. -/
def BringsUp (q : Task) : Prop := q = .op .main ∨ frameTask q = true ∨ bringUpTask q = true

theorem bringsUp_of_inBringUp {q : Task} {ts : List Task} (h : inBringUp (q :: ts)) : BringsUp q := by
  rcases h with h | ⟨us, x, h, hframe, hx⟩
  · exact .inl (List.cons.inj h).1
  · cases us with
    | nil => obtain ⟨rfl, -⟩ := List.cons.inj h; exact .inr (.inr hx)
    | cons u us => obtain ⟨rfl, -⟩ := List.cons.inj h; exact .inr (.inl (hframe _ (List.mem_cons_self ..)))

/-- A task of bring-up keeps the lines free, or activates the host. -/
theorem Ran.held_of_bringsUp {s t : State} {q : Task} (h : Ran s q t) (hq : BringsUp q) (hs : s.keyLines.Held) :
    t.keyLines.Held := by
  have same {u : State} (hu : u.keyLines = s.keyLines) : u.keyLines.Held := hu ▸ hs
  cases h with
  | main | seqPlay | seqRxTake => exact hs
  | seqSendBits f => exact same (sendBits_keyLines s f)
  | seqNextBit f => exact same (sendBits_keyLines s.countBit f)
  | seqWaitBegin | seqWaitNext => exact same (waitPoll_keyLines { s with waitCnt := _ })
  | seqRxLow => exact same (rxLow_keyLines s)
  | seqRxHigh => exact same (rxHigh_keyLines s)
  | seqRxBit => exact same (rxBit_keyLines s)
  | seqRxShift => exact same (rxBit_keyLines (State.countBit { s with rxWord := _ }))
  | seqBuRead => exact same (sendRead_keyLines ((s.enter .buRead).push [.seq .buCheck]) _ _)
  | seqBuCheck => exact buCheck_held hs
  | seqHostTry c =>
    cases c with
    | activate => exact hostEmit_activate_held hs
    | _ => simp [BringsUp, frameTask, bringUpTask] at hq
  | _ => simp [BringsUp, frameTask, bringUpTask] at hq

theorem State.Phases.held {s : State} (h : s.Phases) : s.keyLines.Held := fun hf =>
  have ⟨_, hport, hpress, hrelease, _⟩ := h.1 hf
  ⟨hport, hpress, hrelease⟩

/-- Before activation the step runs a task of bring-up; after it the host stays active. -/
theorem State.Phases.step_held {s t : State} (hs : s.Phases) (hstep : step s = .next t) : t.keyLines.Held := by
  rcases step_ran hstep with ⟨-, rfl⟩ | ⟨-, -, rfl⟩ | ⟨-, -, q, ts, hq, hran⟩
  · exact fun _ => ⟨rfl, rfl, rfl⟩
  · exact hs.held
  · cases hactive : s.hostActive with
    | true =>
      obtain ⟨htasks, -⟩ := hs.2 hactive
      exact KeyLines.held_of_active ((hran.staysActivated (htasks q (by simp [hq]))).active hactive)
    | false =>
      obtain ⟨hbring, -⟩ := hs.1 hactive
      rw [hq] at hbring
      exact hran.held_of_bringsUp (bringsUp_of_inBringUp hbring) hs.held

/-- Settles O50: on lines that are held while the host is not active, whatever stands has an active host. -/
theorem noKeyBeforeActivation : Obligations.NoKeyBeforeActivation := by
  intro s t c hs hstep
  cases hactive : t.hostActive with
  | true => exact ⟨fun _ => rfl, fun _ => rfl⟩
  | false =>
    obtain ⟨hport, hpress, hrelease⟩ : t.hostPort = none ∧ t.hookPress = false ∧ t.hookRelease = false :=
      hs.step_held hstep hactive
    simp [hport, hpress, hrelease]

end Sys2Proof.Machine

namespace Sys2Proof.Machine

/-! ## The indicator word (44_indicator_driver.md R240, R241, 30_encoding.md R120) -/

theorem exec_packIndicators (s : State) : exec .packIndicators s = .next s.pack := rfl

/-- The mask of an indicator has one bit at most: the indicator's own, if it is lit. -/
theorem indicatorMask_getLsbD (b : Bool) (pos : Nat) {j : Nat} (hj : j < 16) :
    (indicatorMask b pos).getLsbD j = true ↔ b = true ∧ j = pos := by
  cases b with
  | false => simp [indicatorMask]
  | true =>
    simp only [indicatorMask, if_true, BitVec.getLsbD_shiftLeft, BitVec.getLsbD_one, decide_eq_true hj, Bool.true_and,
      Bool.and_eq_true, Bool.not_eq_true', decide_eq_true_eq, decide_eq_false_iff_not, true_and]
    omega

/-- A bit of the indicator word is cleared by the masks alone. -/
theorem indicatorWord_getLsbD (p : Params) (num caps scroll : Bool) {j : Nat} (hj : j < 16) :
    (p.indicatorWord num caps scroll).getLsbD j = false ↔
      (indicatorMask num p.ledBitNum).getLsbD j = true ∨ (indicatorMask caps p.ledBitCaps).getLsbD j = true
        ∨ (indicatorMask scroll p.ledBitScroll).getLsbD j = true := by
  have hones : (0xFFFF#16).getLsbD j = true := (BitVec.getLsbD_allOnes (v := 16)).trans (decide_eq_true hj)
  simp only [Params.indicatorWord, BitVec.getLsbD_and, BitVec.getLsbD_not, hones, decide_eq_true hj, Bool.true_and,
    Bool.and_eq_false_iff, Bool.not_eq_false', or_assoc]

/-- Settles O24: the operation is `State.pack`, and each of the three masks clears the bit of its own indicator. -/
theorem packIndicatorsActiveLow : Obligations.PackIndicatorsActiveLow := by
  refine ⟨exec_packIndicators, fun p num caps scroll j _ hj => ?_⟩
  rw [indicatorWord_getLsbD p num caps scroll hj, indicatorMask_getLsbD num _ hj, indicatorMask_getLsbD caps _ hj,
    indicatorMask_getLsbD scroll _ hj]

/-- Of the record the indicator word reads the three positions alone. -/
theorem indicatorWord_congr {p q : Params} (hnum : p.ledBitNum = q.ledBitNum) (hcaps : p.ledBitCaps = q.ledBitCaps)
    (hscroll : p.ledBitScroll = q.ledBitScroll) : p.indicatorWord = q.indicatorWord := by
  funext num caps scroll
  rw [Params.indicatorWord, Params.indicatorWord, hnum, hcaps, hscroll]

theorem nominal_indicatorWord_unlit : Params.nominal.indicatorWord false false false = 0xFFFF#16 := by decide

theorem nominal_indicatorWord_caps : Params.nominal.indicatorWord false true false = 0xFFFD#16 := by decide

/-- Settles O25: the rows are evaluated, and a state with the nominal positions and no lock lit is in the first or the
second of them. -/
theorem packTableNominal : Obligations.PackTableNominal := by
  refine ⟨nominal_indicatorWord_unlit, nominal_indicatorWord_caps, by decide, by decide, by decide, by decide, by decide,
    by decide, fun s ⟨hnum, hscroll⟩ hposNum hposCaps hposScroll => ?_⟩
  have hword : s.cfg.indicatorWord = Params.nominal.indicatorWord := indicatorWord_congr hposNum hposCaps hposScroll
  rw [hword, hnum, hscroll]
  cases s.indCaps with
  | false => exact nominal_indicatorWord_unlit
  | true => exact nominal_indicatorWord_caps

end Sys2Proof.Machine

namespace Sys2Proof.Machine

/-! ## The two phases of life (60_exceptions.md R260, 42_bring_up_and_poll.md R192, R193) -/

/-! ### A frame or a reception -/

/-- From `s` to `t` a frame or a reception goes on: its statements stand in front of the continuation, and nothing of
the host's side has moved. -/
def Framed (s t : State) : Prop := Pushed frameTask s t ∧ t.hostSide = s.hostSide

theorem sendBits_framed (s : State) (f : TxField) : Framed s (s.sendBits f) := by
  refine ⟨?_, sendBits_hostSide s f⟩
  rcases sendBits_cases s f with ⟨-, h⟩ | ⟨i, -, h⟩ <;> rw [h]
  · exact ⟨[_], rfl, rfl⟩
  · exact ⟨[_, _], rfl, rfl⟩

theorem waitPoll_framed (s : State) : Framed s s.waitPoll := by
  refine ⟨?_, waitPoll_hostSide s⟩
  rcases waitPoll_cases s with ⟨-, h⟩ | ⟨-, -, h⟩ | ⟨-, -, h⟩ <;> rw [h]
  · exact ⟨[], rfl, rfl⟩
  · exact ⟨[_], rfl, rfl⟩
  · exact ⟨[_], rfl, rfl⟩

theorem rxHigh_framed (s : State) : Framed s s.rxHigh := by
  refine ⟨?_, rxHigh_hostSide s⟩
  rcases rxHigh_cases s with ⟨-, h⟩ | ⟨-, h⟩ <;> rw [h] <;> exact ⟨[_], rfl, rfl⟩

theorem rxLow_framed (s : State) : Framed s s.rxLow := by
  refine ⟨?_, rxLow_hostSide s⟩
  rcases rxLow_cases s with ⟨-, h⟩ | ⟨-, h⟩ <;> rw [h] <;> exact ⟨[_], rfl, rfl⟩

theorem rxBit_framed (s : State) : Framed s s.rxBit := by
  refine ⟨?_, rxBit_hostSide s⟩
  rcases rxBit_cases s with ⟨-, h⟩ | ⟨-, h⟩ <;> rw [h]
  · exact ⟨[], rfl, rfl⟩
  · exact Pushed.trans ⟨[_], rfl, rfl⟩ (rxLow_framed (s.push [.seq .rxShift])).1

theorem Ran.framed {s t : State} {q : Task} (h : Ran s q t) (hq : frameTask q = true) : Framed s t := by
  cases h with
  | seqPlay | seqRxTake => exact ⟨⟨[], rfl, rfl⟩, rfl⟩
  | seqSendBits f => exact sendBits_framed s f
  | seqNextBit f => exact sendBits_framed s.countBit f
  | seqWaitBegin | seqWaitNext => exact waitPoll_framed { s with waitCnt := _ }
  | seqRxLow => exact rxLow_framed s
  | seqRxHigh => exact rxHigh_framed s
  | seqRxBit => exact rxBit_framed s
  | seqRxShift => exact rxBit_framed (State.countBit { s with rxWord := _ })
  | _ => cases hq

/-! ### The polling loop keeps to itself -/

theorem pollTask_of_frameTask {q : Task} (h : frameTask q = true) : pollTask q = true := by
  cases q with
  | op i => cases h
  | seq q =>
    cases q with
    | play | sendBits | nextBit | waitBegin | waitNext | rxLow | rxHigh | rxTake | rxBit | rxShift => rfl
    | _ => cases h

theorem Framed.pushed_pollTask {s t : State} (h : Framed s t) : Pushed pollTask s t :=
  h.1.mono fun _ => pollTask_of_frameTask

theorem pollTask_hostTry {c : HostCall} (hc : c ≠ .activate) : pollTask (.seq (.hostTry c)) = true := by
  cases c with
  | activate => exact absurd rfl hc
  | press | release | writeAndAutoRelease => rfl

theorem hostEmit_pushed_pollTask (s : State) {c : HostCall} (hc : c ≠ .activate) :
    Pushed pollTask s (s.hostEmit c) := by
  rcases hostEmit_cases s c with ⟨-, h⟩ | ⟨-, h⟩ <;> rw [h]
  · exact ⟨[.seq .hostDone], rfl, rfl⟩
  · exact ⟨[.seq (.hostTry c)], rfl, by simp [pollTask_hostTry hc]⟩

theorem decodeSlot_pushed_pollTask (s : State) (e : Byte) : Pushed pollTask s (s.decodeSlot e) := by
  rcases decodeSlot_cases s e with ⟨k, h⟩ | ⟨-, h⟩ | ⟨-, -, h⟩ | ⟨k, -, -, h⟩ <;> rw [h]
  · exact ⟨[.seq (.hookDone k)], by cases k <;> rfl, rfl⟩
  · exact ⟨[], rfl, rfl⟩
  · exact Pushed.trans (t := (s.presentScan (eventScan e)).flipCaps.push [.op .writeIndicators]) ⟨[_], rfl, rfl⟩
      (hostEmit_pushed_pollTask _ HostCall.noConfusion)
  · exact hostEmit_pushed_pollTask (s.presentScan (eventScan e)) (plainCall_ne_activate _ k)

theorem decodeWord_pushed_pollTask (s : State) (w : BitVec 16) : Pushed pollTask s (s.decodeWord w) :=
  Pushed.trans (t := (s.beginSlot 0).push [.seq (.decodeSecond (slot1 w))]) ⟨[_], rfl, rfl⟩
    (decodeSlot_pushed_pollTask _ (slot0 w))

/-- The statements of the polling loop bring neither one of bring-up nor a second activation. -/
theorem Ran.pushed_pollTask {s t : State} {q : Task} (h : Ran s q t) (hq : pollTask q = true) :
    Pushed pollTask s t := by
  by_cases hf : frameTask q = true
  · exact (h.framed hf).pushed_pollTask
  cases h with
  | pollLoop => exact ⟨[_, _, _, _], rfl, rfl⟩
  | writeIndicators => exact ⟨[_, _, _], rfl, rfl⟩
  | seqWriteData => exact ⟨[_, _], rfl, rfl⟩
  | seqWriteGap | seqPlIdle | seqPlCheckSilent => exact ⟨[_], rfl, rfl⟩
  | seqPlCheckAnswered w =>
    exact Pushed.trans (t := s.push [.seq .plIdle]) ⟨[_], rfl, rfl⟩ (decodeWord_pushed_pollTask _ w)
  | seqDecodeSecond e => exact decodeSlot_pushed_pollTask (s.beginSlot 1) e
  | seqHostTry c => exact hostEmit_pushed_pollTask s (fun hc => by subst hc; cases hq)
  | seqHostDone => exact ⟨[], rfl, rfl⟩
  | seqHookDone k => exact ⟨[], by cases k <;> rfl, rfl⟩
  | seqPlay | seqSendBits | seqNextBit | seqWaitBegin | seqWaitNext | seqRxLow | seqRxHigh | seqRxTake | seqRxBit
  | seqRxShift =>
    exact absurd rfl hf
  | _ => cases hq

/-! ### What remains of the program, by phase -/

/-- The clauses of `State.Phases` before activation that speak of the program. -/
def State.BringingUp (s : State) : Prop :=
  inBringUp s.ctl.rest
    ∧ (s.ctl.activity = .buReset ∨ s.ctl.activity = .buRead ∨ s.ctl.activity = .buActivate)
    ∧ (Task.seq (.hostTry .activate) ∈ s.ctl.rest → s.ctl.activity = .buActivate)

/-- The clauses of `State.Phases` after activation. -/
def State.Polling (s : State) : Prop :=
  (∀ t ∈ s.ctl.rest, pollTask t = true) ∧ s.ctl.activity ≠ .buReset ∧ s.ctl.activity ≠ .buRead

/-- The program that remains is that of the phase `host_active` tells. -/
def State.ProgramInPhase (s : State) : Prop :=
  (s.hostActive = false → s.BringingUp) ∧ (s.hostActive = true → s.Polling)

theorem phases_iff (s : State) : s.Phases ↔ s.keyLines.Held ∧ s.ProgramInPhase := by
  constructor
  · intro h
    refine ⟨h.held, fun hf => ?_, h.2⟩
    obtain ⟨hrest, -, -, -, hactivity, htry⟩ := h.1 hf
    exact ⟨hrest, hactivity, htry⟩
  · rintro ⟨hheld, hbring, hpoll⟩
    refine ⟨fun hf => ?_, hpoll⟩
    obtain ⟨hport, hpress, hrelease⟩ : s.hostPort = none ∧ s.hookPress = false ∧ s.hookRelease = false := hheld hf
    obtain ⟨hrest, hactivity, htry⟩ := hbring hf
    exact ⟨hrest, hport, hpress, hrelease, hactivity, htry⟩

theorem State.BringingUp.programInPhase {s : State} (h : s.BringingUp) (hf : s.hostActive = false) :
    s.ProgramInPhase :=
  ⟨fun _ => h, fun ht => (nomatch hf.symm.trans ht)⟩

theorem State.Polling.programInPhase {s : State} (h : s.Polling) (ht : s.hostActive = true) : s.ProgramInPhase :=
  ⟨fun hf => (nomatch hf.symm.trans ht), fun _ => h⟩

/-! ### Bring-up goes on, or hands over -/

/-- Within bring-up: a frame that goes on, one statement of `bringUp` behind it, then the polling loop; the wait for the
host is part of activation. -/
structure State.InAttempt (s : State) (us : List Task) (x : Task) : Prop where
  rest : s.ctl.rest = us ++ [x, .op .pollLoop]
  frame : us.all frameTask = true
  last : bringUpTask x = true
  activity : s.ctl.activity = .buReset ∨ s.ctl.activity = .buRead ∨ s.ctl.activity = .buActivate
  activates : x = .seq (.hostTry .activate) → s.ctl.activity = .buActivate

theorem State.InAttempt.programInPhase {s : State} {us : List Task} {x : Task} (h : s.InAttempt us x)
    (hf : s.hostActive = false) : s.ProgramInPhase := by
  have hframe : ∀ y ∈ us, frameTask y = true := List.all_eq_true.mp h.frame
  refine State.BringingUp.programInPhase ⟨.inr ⟨us, x, h.rest, hframe, h.last⟩, h.activity, fun hmem => ?_⟩ hf
  rw [h.rest, List.mem_append, List.mem_pair] at hmem
  rcases hmem with hmem | heq | heq
  · exact absurd (hframe _ hmem) Bool.false_ne_true
  · exact h.activates heq.symm
  · cases heq

theorem State.BringingUp.main_or_inAttempt {s : State} (h : s.BringingUp) :
    s.ctl.rest = [.op .main] ∨ ∃ us x, s.InAttempt us x := by
  obtain ⟨hmain | ⟨us, x, hrest, hframe, hx⟩, hactivity, htry⟩ := h
  · exact .inl hmain
  · exact .inr ⟨us, x, hrest, List.all_eq_true.mpr hframe, hx, hactivity, fun hact => htry (by simp [hrest, hact])⟩

theorem State.InAttempt.tail {s : State} {u x : Task} {us : List Task} (h : s.InAttempt (u :: us) x) :
    (s.withRest (us ++ [x, .op .pollLoop])).InAttempt us x :=
  have ⟨_, hus⟩ := Bool.and_eq_true_iff.mp (List.all_cons.symm.trans h.frame)
  ⟨rfl, hus, h.last, h.activity, h.activates⟩

theorem State.InAttempt.framed {s t : State} {us : List Task} {x : Task} (h : s.InAttempt us x) (hf : Framed s t) :
    ∃ vs, t.InAttempt vs x := by
  obtain ⟨⟨vs, hvs, hframe⟩, hside⟩ := hf
  have hact : t.ctl.activity = s.ctl.activity := congrArg HostSide.activity hside
  have hall : (vs ++ us).all frameTask = true := by rw [List.all_append, hframe, h.frame]; rfl
  exact ⟨vs ++ us, by rw [hvs, h.rest, List.append_assoc], hall, h.last, hact ▸ h.activity, hact ▸ h.activates⟩

section
variable {s : State} (hrest : s.ctl.rest = [.op .pollLoop]) (hf : s.hostActive = false)
include hrest hf

theorem bringUp_programInPhase : s.bringUp.ProgramInPhase := by
  rw [bringUp_eq]
  exact State.InAttempt.programInPhase (us := [_]) (x := .seq .buRead)
    ⟨congrArg ([_, _] ++ ·) hrest, rfl, rfl, .inl rfl, (nomatch ·)⟩ hf

theorem buRead_programInPhase : s.buRead.ProgramInPhase := by
  rw [buRead_eq]
  exact State.InAttempt.programInPhase (us := [_, _, _]) (x := .seq .buCheck)
    ⟨congrArg ([_, _, _, _] ++ ·) hrest, rfl, rfl, .inr (.inl rfl), (nomatch ·)⟩ hf

/-- The hand-over of `activate` ends bring-up: what remains is the polling loop (R192). -/
theorem hostEmit_activate_programInPhase (ha : s.ctl.activity = .buActivate) :
    (s.hostEmit .activate).ProgramInPhase := by
  rcases hostEmit_cases s .activate with ⟨-, h⟩ | ⟨-, h⟩ <;> rw [h]
  · exact State.Polling.programInPhase ⟨by simp [hrest, pollTask], by simp [ha]⟩ (Bool.or_true _)
  · exact State.InAttempt.programInPhase (us := []) (x := .seq (.hostTry .activate))
      ⟨congrArg ([_] ++ ·) hrest, rfl, rfl, .inr (.inr ha), fun _ => ha⟩ hf

theorem buCheck_programInPhase : s.buCheck.ProgramInPhase := by
  by_cases ho : s.outcome = .response
  · rw [buCheck_response s ho]; exact hostEmit_activate_programInPhase (s := s.enter .buActivate) hrest hf rfl
  · rw [buCheck_retry s ho]; exact bringUp_programInPhase hrest hf

end

/-- A last statement of bring-up begins the next part of it, or hands over to the polling loop. -/
theorem Ran.programInPhase_of_bringUpTask {s t : State} {q : Task} (h : Ran s q t)
    (hrest : s.ctl.rest = [.op .pollLoop]) (hf : s.hostActive = false) (hq : bringUpTask q = true)
    (htry : q = .seq (.hostTry .activate) → s.ctl.activity = .buActivate) :
    t.ProgramInPhase := by
  cases h with
  | seqBuRead => exact buRead_programInPhase hrest hf
  | seqBuCheck => exact buCheck_programInPhase hrest hf
  | seqHostTry c =>
    cases c with
    | activate => exact hostEmit_activate_programInPhase hrest hf (htry rfl)
    | press | release | writeAndAutoRelease => cases hq
  | _ => cases hq

/-- A task run while the host is not active: the whole program, a statement of a frame, or a last statement of
bring-up. -/
theorem Ran.programInPhase_of_bringingUp {s t : State} {q : Task} {ts : List Task} (h : Ran (s.withRest ts) q t)
    (hq : s.ctl.rest = q :: ts) (hs : s.BringingUp) (hf : s.hostActive = false) : t.ProgramInPhase := by
  rcases hs.main_or_inAttempt with hmain | ⟨us, x, hat⟩
  · obtain ⟨rfl, rfl⟩ := List.cons.inj (hq.symm.trans hmain)
    cases h
    exact bringUp_programInPhase (s := (s.withRest []).push [.op .pollLoop]) rfl hf
  · cases us with
    | nil =>
      obtain ⟨rfl, rfl⟩ := List.cons.inj (hq.symm.trans hat.rest)
      exact h.programInPhase_of_bringUpTask rfl hf hat.last hat.activates
    | cons u us =>
      obtain ⟨rfl, rfl⟩ := List.cons.inj (hq.symm.trans hat.rest)
      have hframed : Framed _ t := h.framed (List.all_eq_true.mp hat.frame q (List.mem_cons_self ..))
      have hactive : t.hostActive = s.hostActive := congrArg HostSide.active hframed.2
      obtain ⟨vs, hnext⟩ := hat.tail.framed hframed
      exact hnext.programInPhase (hactive.trans hf)

/-- A task run while the host is active: all that remains belongs to the polling loop. -/
theorem Ran.polling {s t : State} {q : Task} {ts : List Task} (h : Ran (s.withRest ts) q t)
    (hq : s.ctl.rest = q :: ts) (hs : s.Polling) : t.Polling := by
  obtain ⟨htasks, hactivity⟩ := hs
  rw [hq, List.forall_mem_cons] at htasks
  obtain ⟨hhead, hts⟩ := htasks
  refine ⟨fun x hx => ?_, (h.staysActivated hhead).activity hactivity⟩
  exact ((h.pushed_pollTask hhead).rest x hx).elim id (hts x)

theorem blockReset_programInPhase (s : State) : s.blockReset.ProgramInPhase :=
  State.BringingUp.programInPhase ⟨.inl rfl, .inl rfl, by simp [State.reset]⟩ rfl

/-- Settles O49, by the cases of a step: the lines by `State.Phases.step_held`, the program by the phase in which the
head task runs. -/
theorem phasesOfLifeKept : Obligations.PhasesOfLifeKept := by
  intro s t hs hstep
  refine (phases_iff t).mpr ⟨hs.step_held hstep, ?_⟩
  obtain ⟨-, hprog⟩ := (phases_iff s).mp hs
  rcases step_ran hstep with ⟨-, rfl⟩ | ⟨-, -, rfl⟩ | ⟨-, -, q, ts, hq, hran⟩
  · exact blockReset_programInPhase s
  · exact hprog
  · cases hactive : s.hostActive with
    | false => exact hran.programInPhase_of_bringingUp hq (hprog.1 hactive) hactive
    | true =>
      have hpoll : s.Polling := hprog.2 hactive
      have hstays := hran.staysActivated (hpoll.1 q (by simp [hq]))
      exact (hran.polling hq hpoll).programInPhase (hstays.active hactive)

end Sys2Proof.Machine

namespace Sys2Proof.Machine

/-! ## The edge waits of the receiver (70_reset_and_hazards.md R291) -/

/-- A loop that finds its condition unmet at each of `n` ticks hangs at its control point: the wires stay, and besides
time only the timer and `ctl` move. -/
theorem TickLoop.hangs {q : SeqTask} {loop : State → State} (hloop : TickLoop q loop) {p : Point} {n : Nat} {s : State}
    (hn : 0 < n) (hq : s.QuietRst n)
    (hwait : ∀ d, d < n → loop (s.after d) = ((s.after d).push [.seq q]).hold p 1) :
    (loop s).ctl.point = p
      ∧ Runs (loop s) (List.replicate n s.wires) { loop s with timer := 0, now := s.now + n }
      ∧ loop s = { s with timer := 1, ctl := (loop s).ctl } := by
  have hfirst : loop s = (s.push [.seq q]).hold p 1 := hwait 0 hn
  refine ⟨by rw [hfirst]; rfl, ?_, by rw [hfirst]; rfl⟩
  rw [wires_eq_wiresAt hq.now]
  exact hloop.runs_waiting hn hq hwait

/-- Settles O34: the first edge wait hangs at a high line; at a low one it is over at once, and the second hangs. -/
theorem edgeWaitsHang : Obligations.EdgeWaitsHang := by
  intro s n hm hn hq
  refine ⟨fun hhigh => ⟨s.rxLow, exec_sampleBit s, ?_⟩, fun hlow => ⟨s.rxHigh, ?_, ?_⟩⟩
  · exact tickLoop_rxLow.hangs hn hq fun d hd => rxLow_high (s.after d) (line_high hm (hhigh d hd))
  · rw [exec_sampleBit, rxLow_eq_rxHigh (line_low (hlow 0 hn))]
  · exact tickLoop_rxHigh.hangs hn hq fun d hd => rxHigh_low (s.after d) (line_low (hlow d hd))

/-! ## The block's reset (70_reset_and_hazards.md R280) -/

/-- In a tick with `rst` the wires are those of the reset state. -/
theorem wires_of_rst {s : State} (h : s.rst = true) :
    s.wires = { pin := .release, host := none, hookPress := false, hookRelease := false } := if_pos h

/-- At the first tick after a reset the step runs `main`, with nothing left behind it. -/
theorem step_blockReset {s : State} (h : s.blockReset.rst = false) :
    step s.blockReset = exec .main (s.blockReset.withRest []) :=
  step_run s.blockReset h rfl (.op .main) [] rfl

/-- Settles O2: the step of a tick with `rst` is `State.blockReset`, whose fields are those of `State.reset`. -/
theorem blockResetDominatesEveryTick : Obligations.BlockResetDominatesEveryTick := by
  intro s h
  obtain ⟨hpin, hnum, hcaps, hscroll, hactive, -, htimer, hwait, hbit, hslot, hcmd, hdata, hword, houtcome, -, -, hpress,
    hrelease⟩ := resetLeavesListedValues
  exact ⟨s.blockReset, step_rst s h, hpin, hnum, hcaps, hscroll, hactive, houtcome, hword, htimer, hwait, hbit, hslot,
    hcmd, hdata, rfl, hpress, hrelease, rfl, rfl, rfl, rfl, wires_of_rst h, step_blockReset⟩

end Sys2Proof.Machine

namespace Sys2Proof.Machine

/-! ## An operation at the head of the continuation (00_scope.md R15, 10_state.md R31) -/

/-- Settles O4: past the reset and the delay, the step runs the head task in the continuation without it. -/
theorem stepRunsHeadOperation : Obligations.StepRunsHeadOperation := fun s i ts hrst htimer hrest =>
  step_run s hrst htimer (.op i) ts hrest

/-- The intervals that are left are those that do not hold the tick. -/
theorem inSpans_spansWithout (t : Nat) (spans : List (Nat × Nat)) : inSpans (spansWithout t spans) t = false := by
  induction spans with
  | nil => rfl
  | cons span rest ih =>
    obtain ⟨lo, hi⟩ := span
    by_cases h : lo ≤ t ∧ t ≤ hi
    · rwa [spansWithout, if_pos h]
    · rw [spansWithout, if_neg h, inSpans, ih, Bool.or_false, ← Bool.decide_and, decide_eq_false h]

theorem placed_rst (s : State) (i : Instr) : (s.placed i).rst = false := inSpans_spansWithout _ _

theorem step_placed (s : State) (i : Instr) :
    step (s.placed i) = exec i { s with timer := 0, env := { s.env with rst := spansWithout s.now s.env.rst } } :=
  stepRunsHeadOperation (s.placed i) i s.ctl.rest (placed_rst s i) rfl rfl

theorem withFetchWord_decoded (s : State) {nbits w : Nat} {i : Instr} (h : decodeTableWord nbits w = some i) :
    s.withFetchWord nbits w = s.placed i := by
  rw [State.withFetchWord, h]

/-- Settles O5: the decoded instruction is placed at the head of the continuation, with no reset at the tick. -/
theorem stepRunsPlacedWord : Obligations.StepRunsPlacedWord := by
  intro s nbits w i h
  rw [withFetchWord_decoded s h, step_placed]

/-! ## The event rows (30_encoding.md R110, 43_key_event_decoder.md R211, R212) -/

theorem exec_evPress (s : State) (scan : BitVec 7) :
    exec (.evPress scan) s = .next (s.decodeSlot (eventByte 0#1 scan)) := rfl
theorem exec_evRelease (s : State) (scan : BitVec 7) :
    exec (.evRelease scan) s = .next (s.decodeSlot (eventByte 1#1 scan)) := rfl
theorem exec_evSentinel (s : State) (rel : Bit) :
    exec (.evSentinel rel) s = .next (s.decodeSlot (eventByte rel scanSentinel)) := rfl
theorem exec_evCaps (s : State) (rel : Bit) :
    exec (.evCaps rel) s = .next (s.decodeSlot (eventByte rel scanCaps)) := rfl
theorem exec_evUnmapped (s : State) (rel : Bit) (scan : BitVec 7) :
    exec (.evUnmapped rel scan) s = .next (s.decodeSlot (eventByte rel scan)) := rfl

/-- Settles O21: each row is `decodeSlot` of its event byte. -/
theorem eventRowsDecodeTheirByte : Obligations.EventRowsDecodeTheirByte := fun rel scan s =>
  ⟨⟨_, exec_evPress s scan, exec_decodeSlot s _⟩, ⟨_, exec_evRelease s scan, exec_decodeSlot s _⟩,
    ⟨_, exec_evSentinel s rel, exec_decodeSlot s _⟩, ⟨_, exec_evCaps s rel, exec_decodeSlot s _⟩,
    ⟨_, exec_evUnmapped s rel scan, exec_decodeSlot s _⟩⟩

end Sys2Proof.Machine

namespace Sys2Proof.Machine

/-! ## Decoding what is encoded (30_encoding.md R100 to R103, R110, R120)

One lemma per branch of each format's decoder, on the words the encoder makes. -/

/-! ### Command bytes, the program's own three (R102) and the others -/

theorem cmdByte_inj {a b : BitVec 4} {c d r q : BitVec 2} (h : cmdByte a c r = cmdByte b d q) :
    a = b ∧ c = d ∧ r = q :=
  ⟨by simpa using congrArg cmdAddr h, by simpa using congrArg cmdCode h, by simpa using congrArg cmdReg h⟩

theorem cmdByte_readBringup : cmdByte 2#4 0b11#2 3#2 = 0x2F#8 := rfl
theorem cmdByte_readKeys : cmdByte 2#4 0b11#2 0#2 = 0x2C#8 := rfl
theorem cmdByte_writeLeds : cmdByte 2#4 0b10#2 2#2 = 0x2A#8 := rfl

/-- A command that is none of the program's own three is decoded by its code. -/
theorem decodeCommandByte_generic {a : BitVec 4} {code r : BitVec 2}
    (hread : code = 0b11#2 → readCanonical a r = true) (hwrite : code ≠ 0b10#2) :
    decodeCommandByte (cmdByte a code r)
      = if code = 0b11#2 then .ok (.read a r)
        else if code = 0b01#2 then .ok (.reservedCode01 a r) else .ok (.reservedCode00 a r) := by
  have hbringup : cmdByte a code r ≠ 0x2F#8 := fun h => by
    obtain ⟨rfl, rfl, rfl⟩ := cmdByte_inj (h.trans cmdByte_readBringup.symm)
    exact absurd (hread rfl) (by decide)
  have hkeys : cmdByte a code r ≠ 0x2C#8 := fun h => by
    obtain ⟨rfl, rfl, rfl⟩ := cmdByte_inj (h.trans cmdByte_readKeys.symm)
    exact absurd (hread rfl) (by decide)
  have hleds : cmdByte a code r ≠ 0x2A#8 := fun h => by
    obtain ⟨-, hcode, -⟩ := cmdByte_inj (h.trans cmdByte_writeLeds.symm)
    exact hwrite hcode
  rw [decodeCommandByte, if_neg hbringup, if_neg hkeys, if_neg hleds, cmdAddr_cmdByte, cmdCode_cmdByte,
    cmdReg_cmdByte, if_neg hwrite]

theorem decodeCommandByte_read {a : BitVec 4} {r : BitVec 2} (h : readCanonical a r = true) :
    decodeCommandByte (cmdByte a 0b11#2 r) = .ok (.read a r) :=
  decodeCommandByte_generic (fun _ => h) (by decide)

theorem decodeCommandByte_reservedCode00 (a : BitVec 4) (r : BitVec 2) :
    decodeCommandByte (cmdByte a 0b00#2 r) = .ok (.reservedCode00 a r) :=
  decodeCommandByte_generic (fun h => absurd h (by decide)) (by decide)

theorem decodeCommandByte_reservedCode01 (a : BitVec 4) (r : BitVec 2) :
    decodeCommandByte (cmdByte a 0b01#2 r) = .ok (.reservedCode01 a r) :=
  decodeCommandByte_generic (fun h => absurd h (by decide)) (by decide)

/-! ### Words of two bytes -/

/-- A word is its two bytes, the high one first. -/
theorem slot0_append_slot1 (w : BitVec 16) : slot0 w ++ slot1 w = w := by
  rw [slot0, slot1, BitVec.extractLsb'_append_extractLsb'_eq_extractLsb' (rfl : 8 = 0 + 8), BitVec.extractLsb'_eq_self]

theorem decodeWriteCommand_slots (a : BitVec 4) (r : BitVec 2) (d : BitVec 16) :
    decodeWriteCommand (cmdByte a 0b10#2 r) (slot0 d) (slot1 d) = .ok (.write a r d) := by
  rw [decodeWriteCommand, cmdCode_cmdByte, if_pos rfl, cmdAddr_cmdByte, cmdReg_cmdByte, slot0_append_slot1]

/-- The row `1111111111111scn`: thirteen fixed bits, then one bit for each indicator. -/
theorem decodeIndicator_ledWordOf (sc ca nu : Bit) :
    decodeIndicator (ledWordOf sc ca nu) = .ok (.ledWord sc ca nu) := by
  have hfixed : (ledWordOf sc ca nu).extractLsb' 3 13 = 0x1FFF#13 := by
    rw [ledWordOf, BitVec.extractLsb'_append_eq_of_le (by decide), BitVec.extractLsb'_append_eq_of_le (by decide),
      BitVec.extractLsb'_append_eq_left]
  have hscroll : (ledWordOf sc ca nu).extractLsb' 2 1 = sc := by
    rw [ledWordOf, BitVec.extractLsb'_append_eq_of_le (by decide), BitVec.extractLsb'_append_eq_of_le le_rfl,
      BitVec.extractLsb'_append_eq_of_add_le (by decide), Nat.sub_self, BitVec.extractLsb'_eq_self]
  have hcaps : (ledWordOf sc ca nu).extractLsb' 1 1 = ca := by
    rw [ledWordOf, BitVec.extractLsb'_append_eq_of_le le_rfl, BitVec.extractLsb'_append_eq_of_add_le (by decide),
      Nat.sub_self, BitVec.extractLsb'_eq_self]
  have hnum : (ledWordOf sc ca nu).extractLsb' 0 1 = nu := by
    rw [ledWordOf, BitVec.extractLsb'_append_eq_of_add_le (by decide), BitVec.extractLsb'_eq_self]
  rw [decodeIndicator, if_pos hfixed, hscroll, hcaps, hnum]

/-! ### Event bytes -/

@[simp] theorem eventRel_eventByte (rel : Bit) (scan : BitVec 7) : eventRel (eventByte rel scan) = rel :=
  eventRel_append rel scan

@[simp] theorem eventScan_eventByte (rel : Bit) (scan : BitVec 7) : eventScan (eventByte rel scan) = scan :=
  eventScan_append rel scan

theorem decodeEventByte_sentinel (rel : Bit) (mapped : Bool) :
    decodeEventByte (eventByte rel scanSentinel) mapped = .evSentinel rel := by
  rw [decodeEventByte, eventScan_eventByte, if_pos rfl, eventRel_eventByte]

theorem decodeEventByte_unmapped (rel : Bit) {scan : BitVec 7} (h : scan ≠ scanSentinel) :
    decodeEventByte (eventByte rel scan) false = .evUnmapped rel scan := by
  rw [decodeEventByte, eventScan_eventByte, if_neg h, if_pos rfl, eventRel_eventByte]

theorem decodeEventByte_caps (rel : Bit) : decodeEventByte (eventByte rel scanCaps) true = .evCaps rel := by
  rw [decodeEventByte, eventScan_eventByte, if_neg (by decide), if_neg (by decide), if_pos rfl, eventRel_eventByte]

/-- The scan code of a plain key leaves the release flag to decide. -/
theorem decodeEventByte_plain (rel : Bit) {scan : BitVec 7} (h : eventCanonical scan = true) :
    decodeEventByte (eventByte rel scan) true = if rel = 0#1 then .evPress scan else .evRelease scan := by
  obtain ⟨hsentinel, hcaps⟩ : scan ≠ scanSentinel ∧ scan ≠ scanCaps := of_decide_eq_true h
  rw [decodeEventByte, eventScan_eventByte, if_neg hsentinel, if_neg (by decide), if_neg hcaps, eventRel_eventByte]

/-! ### The round trip -/

/-- Settles O7, by the instruction: each row with a bit pattern is decoded by the branch of its own format. -/
theorem decodeEncodeRoundTrip : Obligations.DecodeEncodeRoundTrip := by
  intro i c hwf henc
  cases i with
  | write a r d => cases henc; exact decodeWriteCommand_slots a r d
  | read a r => cases henc; exact decodeCommandByte_read hwf
  | reservedCode00 a r => cases henc; exact decodeCommandByte_reservedCode00 a r
  | reservedCode01 a r => cases henc; exact decodeCommandByte_reservedCode01 a r
  | evPress scan => cases henc; exact congrArg Except.ok (decodeEventByte_plain 0#1 hwf)
  | evRelease scan => cases henc; exact congrArg Except.ok (decodeEventByte_plain 1#1 hwf)
  | evSentinel rel => cases henc; exact congrArg Except.ok (decodeEventByte_sentinel rel false)
  | evCaps rel => cases henc; exact congrArg Except.ok (decodeEventByte_caps rel)
  | evUnmapped rel scan =>
    cases henc
    exact congrArg Except.ok (decodeEventByte_unmapped rel (of_decide_eq_true hwf))
  | ledWord sc ca nu =>
    cases henc
    rw [decode, slot0_append_slot1, decodeIndicator_ledWordOf]
  | readBringup | readKeys | writeLeds | keyWord | bit0 | bit1 | attnSync | reset | stop | start | gap
  | press | release | writeAndAutoRelease | activate | powerKeyPress | powerKeyRelease => cases henc; rfl
  | _ => cases henc

/-- Settles O6: each of the ten is the encoded form of its instruction. -/
theorem specWordsDecode : Obligations.SpecWordsDecode := by
  refine ⟨?_, ?_, ?_, ?_, ?_, ?_, ?_, ?_, ?_, ?_⟩ <;> exact decodeEncodeRoundTrip _ _ rfl rfl

end Sys2Proof.Machine

namespace Sys2Proof.Machine

/-! ## The invariants at reset (10_state.md R36) -/

theorem blockReset_phases (s : State) : s.blockReset.Phases :=
  (phases_iff _).mpr ⟨fun _ => ⟨rfl, rfl, rfl⟩, blockReset_programInPhase s⟩

theorem blockReset_rxHeld (s : State) : s.blockReset.RxHeld :=
  (rxHeld_iff _).mpr fun _ => ⟨by simp [State.reset], by simp [State.reset, rxTask]⟩

theorem blockReset_countersBounded (s : State) : s.blockReset.CountersBounded := ⟨Nat.zero_le _, Nat.zero_le _⟩

/-- Settles O45: the state a reset tick leaves meets each invariant, and differs from the reset state in the number of
the tick alone, which none of them reads. -/
theorem resetMeetsTheInvariants : Obligations.ResetMeetsTheInvariants :=
  ⟨blockReset_endless .reset, blockReset_pinDiscipline .reset, blockReset_phases .reset, blockReset_rxHeld .reset,
    blockReset_countersBounded .reset, rfl, rfl⟩

end Sys2Proof.Machine
